-- ==== Sys2Proof/Word.lean ====
section
/-! DEFINITION. The word types of the block: bytes, byte counts, decode-table entries and the host's command. -/

namespace Sys2Proof

/-- One byte of IN or OUT. -/
abbrev Byte := BitVec 8

/-- A byte count: `LEN_BITS` = 64 bits, unsigned (00_scope R8, 92 D17). -/
abbrev Count := BitVec 64

/-- The 32-bit packing of a decode-table entry (30_encoding R303). -/
abbrev EntryWord := BitVec 32

/-- A decode-table entry: the 32-bit word of 30_encoding R303, and the number of the symbol it was made for.
The word is exactly the spec's packing. `sym` is the model's own tag, so that an entry of a reserved symbol says
WHICH reserved symbol it is (286 and 287 have one and the same word, as have 30 and 31): it names the decoded
instruction and changes no effect. The packing is internal to the block (R303). DESIGN CHOICE, log entry 11; safe. -/
structure Entry where
  word : EntryWord
  sym  : BitVec 9
  deriving DecidableEq, Repr, Inhabited

/-- A command as the host presents it: the 32-bit word CMD (30_encoding R316) with the operands of R317, the bytes
of IN (`in_n` is their number) and the capacity `out_n`. -/
structure HostCmd where
  word    : BitVec 32
  inBytes : List Byte
  outN    : Count
  deriving DecidableEq, Repr

/-- The element formats of 30_encoding R300 that stand alone in a stream or at the command port. DYNHDR and STORED
are parts of BLOCK_DYNAMIC and BLOCK_STORED. -/
inductive Format where
  | blkhdr | pcl | presym | litlen | offset | cmd
  deriving DecidableEq, Repr

end Sys2Proof
end

