-- ==== Sys2Proof/Config.lean ====
section
/-! DEFINITION. What is fixed at design time (00_scope R8, R9, R10) and the free values the spec leaves open. -/

namespace Sys2Proof.Config

/-- 00_scope R4: the identity string of the spec. -/
def identity : String := "deflate_decompressor / RFC1951-inflate / W64"

/-- Bit-buffer width, 00_scope R8, R10. -/
def W : Nat := 64
/-- The most bits the buffer holds after a refill, 00_scope R8. -/
def maxBitsleft : Nat := W - 1
/-- Refill target in consumable bits, 00_scope R8. -/
def K : Nat := W - 8
/-- Root width of the precode table, 00_scope R8. -/
def precodeTablebits : Nat := 7
/-- Largest root width of the lit/len table, 00_scope R8. -/
def litlenTablebits : Nat := 11
/-- Root width of the offset table, 00_scope R8. -/
def offsetTablebits : Nat := 8
/-- Entries of `precode_table`, 00_scope R8. -/
def precodeEnough : Nat := 128
/-- Entries of `litlen_table`, 00_scope R8. -/
def litlenEnough : Nat := 2342
/-- Entries of `offset_table`, 00_scope R8. -/
def offsetEnough : Nat := 402
/-- Entries of `lens`, 00_scope R8: 288 + 32 + 137. -/
def lensSize : Nat := 457
/-- Sizes of the three alphabets, 00_scope R8. -/
def numLitlenSyms : Nat := 288
def numOffsetSyms : Nat := 32
def numPrecodeSyms : Nat := 19
/-- Longest codewords, 00_scope R8. -/
def maxCodewordLen : Nat := 15
def maxPreCodewordLen : Nat := 7
/-- Match limits, 00_scope R8. -/
def minMatch : Nat := 3
def maxMatch : Nat := 258
def maxDistance : Nat := 32768
/-- The non-normative budgets of 00_scope R8, R9 and 70 R911. No rule of the model reads them. -/
def maxWrite : Nat := 2 + 258 + 5 * (W / 8) - 1
def maxRead : Nat := ((W - 1) + 2 * litlenTablebits + 20 + 28 + 7) / 8 + W / 8

/-- `RESERVED_SYMBOL_POLICY`, a parameter (30_encoding R311). -/
inductive ReservedPolicy where
  | reject | reference
  deriving DecidableEq, Repr

/-- This hardware's policy is `reject` (00_scope R8, 92 D7). -/
def reservedSymbolPolicy : ReservedPolicy := .reject

/-- FREE VALUE: what `actual_in` and `actual_out` hold when their valid bit is 0 (44_decompressor R705, 93 I8).
Nothing constrains it. Log entry 9. -/
opaque freeCount : Nat → Count

/-- FREE VALUE: what the host reads in a byte of OUT that no rule defines (20_memory R207, 93 I6, I7), by use and by
index. Nothing constrains it, but that it is one value for one use and index (DESIGN CHOICE). Log entry 8. -/
opaque freeByte : Nat → Nat → Byte

/-- FREE VALUE: what a table's cell holds after a build that failed (41 R469, 93 I11), by use and by index. Nothing
constrains it. Log entry 10. -/
opaque freeEntry : Nat → Nat → Entry

/-- FREE VALUE: what a cell of `sorted_syms` holds after a build that failed (41 R469, 93 I11). Log entry 10. -/
opaque freeSym : Nat → Nat → BitVec 9

end Sys2Proof.Config
end

