-- ==== Sys2Proof/Machine/Flags.lean ====
section
/-! DEFINITION. The flag bits and fields inside a decode-table entry (30_encoding R303 to R308) and the classes they
give it (43_body_decode R605). The block has no other condition codes (10_state R121). -/

namespace Sys2Proof

/-- `LITERAL`, bit 31 (R303). -/
def Entry.literal (e : Entry) : Bool := e.word.getLsbD 31
/-- `EXCEPTIONAL`, bit 15 (R303). -/
def Entry.exceptional (e : Entry) : Bool := e.word.getLsbD 15
/-- `SUBTABLE_POINTER`, bit 14 (R303). -/
def Entry.subtablePointer (e : Entry) : Bool := e.word.getLsbD 14
/-- `END_OF_BLOCK`, bit 13 (R303). -/
def Entry.endOfBlock (e : Entry) : Bool := e.word.getLsbD 13
/-- `e[11:8]`: codeword bits of this entry, or a subtable's log-width (R303, R307). -/
def Entry.cwbits (e : Entry) : BitVec 4 := e.word.extractLsb' 8 4
/-- `e[7:0]`: the number of bits to remove from the stream (R303). -/
def Entry.nbits (e : Entry) : Nat := (e.word.extractLsb' 0 8).toNat
/-- `e[23:16]`: the literal byte (R304). -/
def Entry.litByte (e : Entry) : Byte := e.word.extractLsb' 16 8
/-- `e[20:16]`: the precode symbol (R306). -/
def Entry.presym (e : Entry) : Nat := (e.word.extractLsb' 16 5).toNat
/-- `e[30:16]`: where a subtable begins (R307). -/
def Entry.subStart (e : Entry) : Nat := (e.word.extractLsb' 16 15).toNat
/-- `e[31:16]`: the base of a length or offset (R305, R308, 43 R606). -/
def Entry.base (e : Entry) : Nat := (e.word.extractLsb' 16 16).toNat
/-- A subtable pointer: EXCEPTIONAL and SUBTABLE_POINTER both set (43 R604). -/
def Entry.isPointer (e : Entry) : Bool := e.exceptional && e.subtablePointer
/-- An end-of-block entry: EXCEPTIONAL and END_OF_BLOCK both set (43 R605). -/
def Entry.isEob (e : Entry) : Bool := e.exceptional && e.endOfBlock

end Sys2Proof
end

