-- ==== Sys2Proof/Machine/Operands.lean ====
section
/-! DEFINITION. The symbol tables, the decode result templates, the entries made from them, and the canonical code
(30_encoding R309 to R311, R325; 41_table_builder R457, R463, R468). -/

namespace Sys2Proof
open Config

/-- `LEN_BASE(257 + k)` at position `k` (30 R309). -/
def lenBases : List Nat :=
  [3, 4, 5, 6, 7, 8, 9, 10, 11, 13] ++
   [15, 17, 19, 23, 27, 31, 35, 43, 51, 59] ++
   [67, 83, 99, 115, 131, 163, 195, 227, 258]

/-- `LEN_EXTRA(257 + k)` at position `k` (30 R309). -/
def lenExtras : List Nat :=
  [0, 0, 0, 0, 0, 0, 0, 0, 1, 1] ++
   [1, 1, 2, 2, 2, 2, 3, 3, 3, 3] ++
   [4, 4, 4, 4, 5, 5, 5, 5, 0]

/-- `OFF_BASE(k)` at position `k` (30 R310). -/
def offBases : List Nat :=
  [1, 2, 3, 4, 5, 7, 9, 13, 17, 25] ++
   [33, 49, 65, 97, 129, 193, 257, 385, 513, 769] ++
   [1025, 1537, 2049, 3073, 4097, 6145, 8193, 12289, 16385, 24577]

/-- `OFF_EXTRA(k)` at position `k` (30 R310). -/
def offExtras : List Nat :=
  [0, 0, 0, 0, 1, 1, 2, 2, 3, 3] ++
   [4, 4, 5, 5, 6, 6, 7, 7, 8, 8] ++
   [9, 9, 10, 10, 11, 11, 12, 12, 13, 13]

/-- `LEN_BASE(s)`, for `s` in 257..285. -/
def lenBase (s : Nat) : Nat := lenBases.getD (s - 257) 0
/-- `LEN_EXTRA(s)`, for `s` in 257..285. -/
def lenExtra (s : Nat) : Nat := lenExtras.getD (s - 257) 0
/-- `OFF_BASE(d)`, for `d` in 0..29. -/
def offBase (d : Nat) : Nat := offBases.getD d 0
/-- `OFF_EXTRA(d)`, for `d` in 0..29. -/
def offExtra (d : Nat) : Nat := offExtras.getD d 0

/-- 30 R325: the template of a precode symbol, `s << 16`. -/
def tmplPrecode (s : Nat) : Nat := s * 2 ^ 16

/-- 30 R325 and R311: the template of a lit/len symbol. -/
def tmplLitlen (p : ReservedPolicy) (s : Nat) : Nat :=
  if s < 256 then 0x80000000 + s * 2 ^ 16
  else if s = 256 then 0x0000A000
  else if s < 286 then lenBase s * 2 ^ 16 + lenExtra s
  else match p with
    | .reject    => 0x00008000
    | .reference => 258 * 2 ^ 16

/-- 30 R325 and R311: the template of an offset symbol. -/
def tmplOffset (p : ReservedPolicy) (d : Nat) : Nat :=
  if d < 30 then offBase d * 2 ^ 16 + offExtra d
  else match p with
    | .reject    => 0x00008000
    | .reference => 24577 * 2 ^ 16 + 13

/-- 41 R457: `make_entry(s, n) = tmpl(s) + (n << 8) + n`. -/
def makeEntry (tmpl : Nat → Nat) (s n : Nat) : Entry :=
  ⟨BitVec.ofNat 32 (tmpl s + n * 2 ^ 8 + n), BitVec.ofNat 9 s⟩

/-- 41 R461, R463, 30 R307: `(start << 16) | EXCEPTIONAL | SUBTABLE_POINTER | (sub_bits << 8) | T`. -/
def pointerEntry (start subBits T : Nat) : Entry :=
  ⟨BitVec.ofNat 32 (start * 2 ^ 16 + 0xC000 + subBits * 2 ^ 8 + T), 0⟩

/-- 42 R520, 30 R314: the order in which precode lengths are sent. -/
def perm : List Nat := [16, 17, 18, 0, 8, 7, 9, 6, 10, 5, 11, 4, 12, 3, 13, 2, 14, 1, 15]

/-- `PERM[i]`. -/
def permAt (i : Nat) : Nat := perm.getD i 0

/-- 42 R511: the code lengths of the fixed lit/len code and of the fixed offset code. -/
def fixedLitlenLens : List Nat :=
  List.replicate 144 8 ++ List.replicate 112 9 ++ List.replicate 24 7 ++ List.replicate 8 8
def fixedOffsetLens : List Nat := List.replicate 32 5

/-- 41 R468: `first[l]`, the first codeword of length `l`. -/
def firstCode (lens : List Nat) : Nat → Nat
  | 0     => 0
  | l + 1 => if l = 0 then 0 else (firstCode lens l + lens.count l) * 2

/-- 41 R468: `code(s)`: symbols of one length take `first[l], first[l]+1, …` in increasing symbol order. -/
def canonCode (lens : List Nat) (s : Nat) : Nat :=
  firstCode lens (lens.getD s 0) + (lens.take s).count (lens.getD s 0)

/-- The code lengths of the three codes in force (00_scope R13, 30 R323 "the code in force"). -/
structure Codes where
  precode : List Nat
  litlen  : List Nat
  offset  : List Nat
  deriving DecidableEq, Repr

/-- The fixed code (30 R320). It has no precode. -/
def fixedCodes : Codes := ⟨[], fixedLitlenLens, fixedOffsetLens⟩

/-- The lengths of the code that a format's symbols are coded in. -/
def Codes.lens (k : Codes) (f : Format) : List Nat :=
  match f with
  | .presym => k.precode
  | .litlen => k.litlen
  | .offset => k.offset
  | .blkhdr | .pcl | .cmd => []

end Sys2Proof
end

