-- ==== Sys2Proof/Machine/Stream.lean ====
section
/-! DEFINITION. The bit stream made from IN (40_bit_reader R400 to R402) and the layout of fields and codewords in it
(30_encoding R301, R302). -/

namespace Sys2Proof

/-- `InRead(a)`, 20_memory R201: asked only for `a < in_n`. -/
def inRead (inb : List Byte) (a : Nat) : Byte := inb.getD a 0

/-- 40 R400: `S[j]`, bit `j` of IN, least significant first in each byte, and a synthetic zero past the end. -/
def streamBit (inb : List Byte) (j : Nat) : Bool :=
  if j < 8 * inb.length then (inRead inb (j / 8)).getLsbD (j % 8) else false

/-- 40 R402: `peek(n)` at cursor `c`, the sum of `S[c+i] · 2^i` for `i < n`. -/
def peekBits (inb : List Byte) (c : Nat) : Nat → Nat
  | 0     => 0
  | n + 1 => peekBits inb c n + (streamBit inb (c + n)).toNat * 2 ^ n

/-- 30 R301: the stream bits of an `n`-bit field of value `v`, its bit 0 first. -/
def fieldBits (n v : Nat) : List Bool := (List.range n).map fun i => v.testBit i

/-- 30 R302: the stream bits of a codeword of `len` bits, its most significant bit first. -/
def codewordBits (len code : Nat) : List Bool := (List.range len).map fun i => code.testBit (len - 1 - i)

/-- The value of the bits of a list, the first as bit 0. -/
def bitsValue : List Bool → Nat
  | []     => 0
  | b :: r => b.toNat + 2 * bitsValue r

/-- The bytes that hold the given stream bits, LSB first in each byte, the last byte filled up with zeros. -/
def packBits (bits : List Bool) : List Byte :=
  (List.range ((bits.length + 7) / 8)).map fun k => BitVec.ofNat 8 (bitsValue ((bits.drop (8 * k)).take 8))

/-- The bits stand in the stream of IN from cursor `c` on. -/
def StreamHolds (inb : List Byte) (c : Nat) (bits : List Bool) : Prop :=
  ∀ j, j < bits.length → streamBit inb (c + j) = bits.getD j false

end Sys2Proof
end

