-- ==== Sys2Proof/Syntax.lean ====
section
/-! DEFINITION. The instructions: one constructor for each row of spec/opcode_table.json. -/

namespace Sys2Proof

/-- The elements and commands the block executes (00_scope R3, 30_encoding R300).
Operands are what the element carries. In a Huffman-coded element `cw` is the number of codeword bits that remain to
be consumed when its meaning runs (43 R606 "codeword bits not yet consumed"): the codeword's length, less the root
bits that a subtable pointer has already consumed (43 R604). `x` and `y` are extra bits, read LSB first (30 R301). -/
inductive Instr where
  /-- BLOCK_STORED: BLKHDR, BTYPE = 0 (42 R504). LEN, NLEN and the data bytes are read from IN by its meaning. -/
  | blockStored (final : Bool)
  /-- BLOCK_FIXED: BLKHDR, BTYPE = 1 (42 R510). -/
  | blockFixed (final : Bool)
  /-- BLOCK_DYNAMIC: BLKHDR, BTYPE = 2, then DYNHDR (42 R519, 30 R314). -/
  | blockDynamic (final : Bool) (hlit : BitVec 5) (hdist : BitVec 5) (hclen : BitVec 4)
  /-- BLOCK_RESERVED: BLKHDR, BTYPE = 3 (42 R503). -/
  | blockReserved (final : Bool)
  /-- PCL: a precode length (42 R520). -/
  | pcl (l : BitVec 3)
  /-- CL: precode symbols 0 to 15 (42 R523). -/
  | cl (cw : BitVec 4) (n : BitVec 4)
  /-- CL_REP_PREV: precode symbol 16 (42 R524). -/
  | clRepPrev (cw : BitVec 4) (x : BitVec 2)
  /-- CL_ZERO: precode symbol 17 (42 R525). -/
  | clZero (cw : BitVec 4) (x : BitVec 3)
  /-- CL_ZERO_LONG: precode symbol 18 (42 R526). -/
  | clZeroLong (cw : BitVec 4) (x : BitVec 7)
  /-- LIT: lit/len symbols 0 to 255 (43 R601). -/
  | lit (cw : BitVec 4) (b : Byte)
  /-- EOB: lit/len symbol 256 (43 R602). -/
  | eob (cw : BitVec 4)
  /-- LEN_257: length 3 (43 R620). -/
  | len257 (cw : BitVec 4)
  /-- LEN_258: length 4 (43 R621). -/
  | len258 (cw : BitVec 4)
  /-- LEN_259: length 5 (43 R622). -/
  | len259 (cw : BitVec 4)
  /-- LEN_260: length 6 (43 R623). -/
  | len260 (cw : BitVec 4)
  /-- LEN_261: length 7 (43 R624). -/
  | len261 (cw : BitVec 4)
  /-- LEN_262: length 8 (43 R625). -/
  | len262 (cw : BitVec 4)
  /-- LEN_263: length 9 (43 R626). -/
  | len263 (cw : BitVec 4)
  /-- LEN_264: length 10 (43 R627). -/
  | len264 (cw : BitVec 4)
  /-- LEN_265: length 11 + x (43 R628). -/
  | len265 (cw : BitVec 4) (x : BitVec 1)
  /-- LEN_266: length 13 + x (43 R629). -/
  | len266 (cw : BitVec 4) (x : BitVec 1)
  /-- LEN_267: length 15 + x (43 R630). -/
  | len267 (cw : BitVec 4) (x : BitVec 1)
  /-- LEN_268: length 17 + x (43 R631). -/
  | len268 (cw : BitVec 4) (x : BitVec 1)
  /-- LEN_269: length 19 + x (43 R632). -/
  | len269 (cw : BitVec 4) (x : BitVec 2)
  /-- LEN_270: length 23 + x (43 R633). -/
  | len270 (cw : BitVec 4) (x : BitVec 2)
  /-- LEN_271: length 27 + x (43 R634). -/
  | len271 (cw : BitVec 4) (x : BitVec 2)
  /-- LEN_272: length 31 + x (43 R635). -/
  | len272 (cw : BitVec 4) (x : BitVec 2)
  /-- LEN_273: length 35 + x (43 R636). -/
  | len273 (cw : BitVec 4) (x : BitVec 3)
  /-- LEN_274: length 43 + x (43 R637). -/
  | len274 (cw : BitVec 4) (x : BitVec 3)
  /-- LEN_275: length 51 + x (43 R638). -/
  | len275 (cw : BitVec 4) (x : BitVec 3)
  /-- LEN_276: length 59 + x (43 R639). -/
  | len276 (cw : BitVec 4) (x : BitVec 3)
  /-- LEN_277: length 67 + x (43 R640). -/
  | len277 (cw : BitVec 4) (x : BitVec 4)
  /-- LEN_278: length 83 + x (43 R641). -/
  | len278 (cw : BitVec 4) (x : BitVec 4)
  /-- LEN_279: length 99 + x (43 R642). -/
  | len279 (cw : BitVec 4) (x : BitVec 4)
  /-- LEN_280: length 115 + x (43 R643). -/
  | len280 (cw : BitVec 4) (x : BitVec 4)
  /-- LEN_281: length 131 + x (43 R644). -/
  | len281 (cw : BitVec 4) (x : BitVec 5)
  /-- LEN_282: length 163 + x (43 R645). -/
  | len282 (cw : BitVec 4) (x : BitVec 5)
  /-- LEN_283: length 195 + x (43 R646). -/
  | len283 (cw : BitVec 4) (x : BitVec 5)
  /-- LEN_284: length 227 + x (43 R647). -/
  | len284 (cw : BitVec 4) (x : BitVec 5)
  /-- LEN_285: length 258 (43 R648). -/
  | len285 (cw : BitVec 4)
  /-- LEN_286: reserved (43 R649). -/
  | len286 (cw : BitVec 4)
  /-- LEN_287: reserved (43 R650). -/
  | len287 (cw : BitVec 4)
  /-- DIST_0: offset 1 (43 R660). -/
  | dist0 (cw : BitVec 4)
  /-- DIST_1: offset 2 (43 R661). -/
  | dist1 (cw : BitVec 4)
  /-- DIST_2: offset 3 (43 R662). -/
  | dist2 (cw : BitVec 4)
  /-- DIST_3: offset 4 (43 R663). -/
  | dist3 (cw : BitVec 4)
  /-- DIST_4: offset 5 + y (43 R664). -/
  | dist4 (cw : BitVec 4) (y : BitVec 1)
  /-- DIST_5: offset 7 + y (43 R665). -/
  | dist5 (cw : BitVec 4) (y : BitVec 1)
  /-- DIST_6: offset 9 + y (43 R666). -/
  | dist6 (cw : BitVec 4) (y : BitVec 2)
  /-- DIST_7: offset 13 + y (43 R667). -/
  | dist7 (cw : BitVec 4) (y : BitVec 2)
  /-- DIST_8: offset 17 + y (43 R668). -/
  | dist8 (cw : BitVec 4) (y : BitVec 3)
  /-- DIST_9: offset 25 + y (43 R669). -/
  | dist9 (cw : BitVec 4) (y : BitVec 3)
  /-- DIST_10: offset 33 + y (43 R670). -/
  | dist10 (cw : BitVec 4) (y : BitVec 4)
  /-- DIST_11: offset 49 + y (43 R671). -/
  | dist11 (cw : BitVec 4) (y : BitVec 4)
  /-- DIST_12: offset 65 + y (43 R672). -/
  | dist12 (cw : BitVec 4) (y : BitVec 5)
  /-- DIST_13: offset 97 + y (43 R673). -/
  | dist13 (cw : BitVec 4) (y : BitVec 5)
  /-- DIST_14: offset 129 + y (43 R674). -/
  | dist14 (cw : BitVec 4) (y : BitVec 6)
  /-- DIST_15: offset 193 + y (43 R675). -/
  | dist15 (cw : BitVec 4) (y : BitVec 6)
  /-- DIST_16: offset 257 + y (43 R676). -/
  | dist16 (cw : BitVec 4) (y : BitVec 7)
  /-- DIST_17: offset 385 + y (43 R677). -/
  | dist17 (cw : BitVec 4) (y : BitVec 7)
  /-- DIST_18: offset 513 + y (43 R678). -/
  | dist18 (cw : BitVec 4) (y : BitVec 8)
  /-- DIST_19: offset 769 + y (43 R679). -/
  | dist19 (cw : BitVec 4) (y : BitVec 8)
  /-- DIST_20: offset 1025 + y (43 R680). -/
  | dist20 (cw : BitVec 4) (y : BitVec 9)
  /-- DIST_21: offset 1537 + y (43 R681). -/
  | dist21 (cw : BitVec 4) (y : BitVec 9)
  /-- DIST_22: offset 2049 + y (43 R682). -/
  | dist22 (cw : BitVec 4) (y : BitVec 10)
  /-- DIST_23: offset 3073 + y (43 R683). -/
  | dist23 (cw : BitVec 4) (y : BitVec 10)
  /-- DIST_24: offset 4097 + y (43 R684). -/
  | dist24 (cw : BitVec 4) (y : BitVec 11)
  /-- DIST_25: offset 6145 + y (43 R685). -/
  | dist25 (cw : BitVec 4) (y : BitVec 11)
  /-- DIST_26: offset 8193 + y (43 R686). -/
  | dist26 (cw : BitVec 4) (y : BitVec 12)
  /-- DIST_27: offset 12289 + y (43 R687). -/
  | dist27 (cw : BitVec 4) (y : BitVec 12)
  /-- DIST_28: offset 16385 + y (43 R688). -/
  | dist28 (cw : BitVec 4) (y : BitVec 13)
  /-- DIST_29: offset 24577 + y (43 R689). -/
  | dist29 (cw : BitVec 4) (y : BitVec 13)
  /-- DIST_30: reserved (43 R690). -/
  | dist30 (cw : BitVec 4)
  /-- DIST_31: reserved (43 R691). -/
  | dist31 (cw : BitVec 4)
  /-- CMD_RESET: op = 00; `flags` are the ignored bits 3:2 (44 R701). -/
  | cmdReset (flags : BitVec 2)
  /-- CMD_DECOMPRESS: op = 01 with the operands of 30 R317 (44 R703). -/
  | cmdDecompress (wantIn : Bool) (wantOut : Bool) (inBytes : List Byte) (outN : Count)
  /-- CMD_RESERVED_2: op = 10, whatever bits 31:2 are (44 R702). -/
  | cmdReserved2 (rest : BitVec 30)
  /-- CMD_RESERVED_3: op = 11, whatever bits 31:2 are (44 R702). -/
  | cmdReserved3 (rest : BitVec 30)
  deriving DecidableEq, Repr

end Sys2Proof
end

