-- ==== Sys2Proof/WellFormed.lean ====
section
/-! DEFINITION. Which instructions can stand in a stream or at the command port. -/

namespace Sys2Proof

/-- A codeword's remaining length in a lit/len or offset element: 1 to 15 bits (30_encoding R300, R303). -/
def cwOk (cw : BitVec 4) : Bool := decide (1 ≤ cw.toNat)

/-- A codeword's length in a precode element: 1 to 7 bits (30_encoding R300, R306). -/
def preCwOk (cw : BitVec 4) : Bool := decide (1 ≤ cw.toNat ∧ cw.toNat ≤ 7)

/-- The check: codeword lengths in range, and `in_n` a `LEN_BITS`-bit count (30_encoding R317). Everything else is
bounded by the types of the operands. -/
def Instr.wf (i : Instr) : Bool :=
  match i with
  | .blockStored _ => true
  | .blockFixed _ => true
  | .blockDynamic _ _ _ _ => true
  | .blockReserved _ => true
  | .pcl _ => true
  | .cl cw _ => preCwOk cw
  | .clRepPrev cw _ => preCwOk cw
  | .clZero cw _ => preCwOk cw
  | .clZeroLong cw _ => preCwOk cw
  | .lit cw _ => cwOk cw
  | .eob cw => cwOk cw
  | .len257 cw => cwOk cw
  | .len258 cw => cwOk cw
  | .len259 cw => cwOk cw
  | .len260 cw => cwOk cw
  | .len261 cw => cwOk cw
  | .len262 cw => cwOk cw
  | .len263 cw => cwOk cw
  | .len264 cw => cwOk cw
  | .len265 cw _ => cwOk cw
  | .len266 cw _ => cwOk cw
  | .len267 cw _ => cwOk cw
  | .len268 cw _ => cwOk cw
  | .len269 cw _ => cwOk cw
  | .len270 cw _ => cwOk cw
  | .len271 cw _ => cwOk cw
  | .len272 cw _ => cwOk cw
  | .len273 cw _ => cwOk cw
  | .len274 cw _ => cwOk cw
  | .len275 cw _ => cwOk cw
  | .len276 cw _ => cwOk cw
  | .len277 cw _ => cwOk cw
  | .len278 cw _ => cwOk cw
  | .len279 cw _ => cwOk cw
  | .len280 cw _ => cwOk cw
  | .len281 cw _ => cwOk cw
  | .len282 cw _ => cwOk cw
  | .len283 cw _ => cwOk cw
  | .len284 cw _ => cwOk cw
  | .len285 cw => cwOk cw
  | .len286 cw => cwOk cw
  | .len287 cw => cwOk cw
  | .dist0 cw => cwOk cw
  | .dist1 cw => cwOk cw
  | .dist2 cw => cwOk cw
  | .dist3 cw => cwOk cw
  | .dist4 cw _ => cwOk cw
  | .dist5 cw _ => cwOk cw
  | .dist6 cw _ => cwOk cw
  | .dist7 cw _ => cwOk cw
  | .dist8 cw _ => cwOk cw
  | .dist9 cw _ => cwOk cw
  | .dist10 cw _ => cwOk cw
  | .dist11 cw _ => cwOk cw
  | .dist12 cw _ => cwOk cw
  | .dist13 cw _ => cwOk cw
  | .dist14 cw _ => cwOk cw
  | .dist15 cw _ => cwOk cw
  | .dist16 cw _ => cwOk cw
  | .dist17 cw _ => cwOk cw
  | .dist18 cw _ => cwOk cw
  | .dist19 cw _ => cwOk cw
  | .dist20 cw _ => cwOk cw
  | .dist21 cw _ => cwOk cw
  | .dist22 cw _ => cwOk cw
  | .dist23 cw _ => cwOk cw
  | .dist24 cw _ => cwOk cw
  | .dist25 cw _ => cwOk cw
  | .dist26 cw _ => cwOk cw
  | .dist27 cw _ => cwOk cw
  | .dist28 cw _ => cwOk cw
  | .dist29 cw _ => cwOk cw
  | .dist30 cw => cwOk cw
  | .dist31 cw => cwOk cw
  | .cmdReset _ => true
  | .cmdDecompress _ _ inBytes _ => decide (inBytes.length < 2 ^ 64)
  | .cmdReserved2 _ => true
  | .cmdReserved3 _ => true

end Sys2Proof
end

