-- ==== Sys2Proof/Decode.lean ====
section
/-! DEFINITION. The decoders, total on any bytes at any cursor, one for each format of 30_encoding R300; after them the
encoder, written from the encoding rules of 30_encoding. -/

namespace Sys2Proof
open Config

/-- Why a decoder gives no instruction. -/
inductive DecodeError where
  /-- A command word with a bit of 31:4 set and op 00 or 01 (30 R316): no row of the table; 44 R702 refuses it. -/
  | reservedCommandBits
  /-- A precode entry whose symbol is over 18: no build makes one (30 R306). -/
  | noPrecodeSymbol
  /-- A lit/len entry that names no symbol: no build makes one (43 R605 "(never)"). -/
  | noLitlenSymbol
  /-- An offset entry that names no symbol: no build makes one (43 R605 "(never)"). -/
  | noOffsetSymbol
  deriving DecidableEq, Repr

/-- 42 R500 to R502, 30 R312: the 3-bit block header, and behind BTYPE 2 the count header of 30 R314. The bits are
peeked; the meaning consumes them (and raises where one is missing). -/
def decodeBlockHeader (inb : List Byte) (c : Nat) : Instr :=
  match peekBits inb (c + 1) 2 with
  | 0 => .blockStored (streamBit inb c)
  | 1 => .blockFixed (streamBit inb c)
  | 2 => .blockDynamic (streamBit inb c) (BitVec.ofNat 5 (peekBits inb (c + 3) 5))
           (BitVec.ofNat 5 (peekBits inb (c + 8) 5)) (BitVec.ofNat 4 (peekBits inb (c + 13) 4))
  | _ => .blockReserved (streamBit inb c)

/-- 42 R520: the 3-bit precode length. -/
def decodePcl (inb : List Byte) (c : Nat) : Instr := .pcl (BitVec.ofNat 3 (peekBits inb c 3))

/-- 42 R522 to R526, 30 R315: the precode symbol of entry `e`, found at cursor `c`, with the extra bits behind its
codeword. -/
def decodePresym (e : Entry) (inb : List Byte) (c : Nat) : Except DecodeError Instr :=
  let x := fun n => peekBits inb (c + e.cwbits.toNat) n
  if e.presym < 16 then .ok (.cl e.cwbits (BitVec.ofNat 4 e.presym))
  else match e.presym with
    | 16 => .ok (.clRepPrev e.cwbits (BitVec.ofNat 2 (x 2)))
    | 17 => .ok (.clZero e.cwbits (BitVec.ofNat 3 (x 3)))
    | 18 => .ok (.clZeroLong e.cwbits (BitVec.ofNat 7 (x 7)))
    | _  => .error .noPrecodeSymbol

/-- The length symbol's instruction, with extra value `v` (30 R309, R311). -/
def lenInstr (sym : Nat) (cw : BitVec 4) (v : Nat) : Option Instr :=
  match sym with
  | 257 => some (.len257 cw)
  | 258 => some (.len258 cw)
  | 259 => some (.len259 cw)
  | 260 => some (.len260 cw)
  | 261 => some (.len261 cw)
  | 262 => some (.len262 cw)
  | 263 => some (.len263 cw)
  | 264 => some (.len264 cw)
  | 265 => some (.len265 cw (BitVec.ofNat 1 v))
  | 266 => some (.len266 cw (BitVec.ofNat 1 v))
  | 267 => some (.len267 cw (BitVec.ofNat 1 v))
  | 268 => some (.len268 cw (BitVec.ofNat 1 v))
  | 269 => some (.len269 cw (BitVec.ofNat 2 v))
  | 270 => some (.len270 cw (BitVec.ofNat 2 v))
  | 271 => some (.len271 cw (BitVec.ofNat 2 v))
  | 272 => some (.len272 cw (BitVec.ofNat 2 v))
  | 273 => some (.len273 cw (BitVec.ofNat 3 v))
  | 274 => some (.len274 cw (BitVec.ofNat 3 v))
  | 275 => some (.len275 cw (BitVec.ofNat 3 v))
  | 276 => some (.len276 cw (BitVec.ofNat 3 v))
  | 277 => some (.len277 cw (BitVec.ofNat 4 v))
  | 278 => some (.len278 cw (BitVec.ofNat 4 v))
  | 279 => some (.len279 cw (BitVec.ofNat 4 v))
  | 280 => some (.len280 cw (BitVec.ofNat 4 v))
  | 281 => some (.len281 cw (BitVec.ofNat 5 v))
  | 282 => some (.len282 cw (BitVec.ofNat 5 v))
  | 283 => some (.len283 cw (BitVec.ofNat 5 v))
  | 284 => some (.len284 cw (BitVec.ofNat 5 v))
  | 285 => some (.len285 cw)
  | 286 => some (.len286 cw)
  | 287 => some (.len287 cw)
  | _ => none

/-- The offset symbol's instruction, with extra value `v` (30 R310, R311). -/
def distInstr (sym : Nat) (cw : BitVec 4) (v : Nat) : Option Instr :=
  match sym with
  | 0 => some (.dist0 cw)
  | 1 => some (.dist1 cw)
  | 2 => some (.dist2 cw)
  | 3 => some (.dist3 cw)
  | 4 => some (.dist4 cw (BitVec.ofNat 1 v))
  | 5 => some (.dist5 cw (BitVec.ofNat 1 v))
  | 6 => some (.dist6 cw (BitVec.ofNat 2 v))
  | 7 => some (.dist7 cw (BitVec.ofNat 2 v))
  | 8 => some (.dist8 cw (BitVec.ofNat 3 v))
  | 9 => some (.dist9 cw (BitVec.ofNat 3 v))
  | 10 => some (.dist10 cw (BitVec.ofNat 4 v))
  | 11 => some (.dist11 cw (BitVec.ofNat 4 v))
  | 12 => some (.dist12 cw (BitVec.ofNat 5 v))
  | 13 => some (.dist13 cw (BitVec.ofNat 5 v))
  | 14 => some (.dist14 cw (BitVec.ofNat 6 v))
  | 15 => some (.dist15 cw (BitVec.ofNat 6 v))
  | 16 => some (.dist16 cw (BitVec.ofNat 7 v))
  | 17 => some (.dist17 cw (BitVec.ofNat 7 v))
  | 18 => some (.dist18 cw (BitVec.ofNat 8 v))
  | 19 => some (.dist19 cw (BitVec.ofNat 8 v))
  | 20 => some (.dist20 cw (BitVec.ofNat 9 v))
  | 21 => some (.dist21 cw (BitVec.ofNat 9 v))
  | 22 => some (.dist22 cw (BitVec.ofNat 10 v))
  | 23 => some (.dist23 cw (BitVec.ofNat 10 v))
  | 24 => some (.dist24 cw (BitVec.ofNat 11 v))
  | 25 => some (.dist25 cw (BitVec.ofNat 11 v))
  | 26 => some (.dist26 cw (BitVec.ofNat 12 v))
  | 27 => some (.dist27 cw (BitVec.ofNat 12 v))
  | 28 => some (.dist28 cw (BitVec.ofNat 13 v))
  | 29 => some (.dist29 cw (BitVec.ofNat 13 v))
  | 30 => some (.dist30 cw)
  | 31 => some (.dist31 cw)
  | _ => none

/-- 43 R606: the extra value, `peek(nb) >> cw`. -/
def extraValue (e : Entry) (inb : List Byte) (c : Nat) : Nat := peekBits inb c e.nbits / 2 ^ e.cwbits.toNat

/-- 43 R600, R605: the element of the lit/len entry `e`, after `lookup`, at cursor `c`. -/
def decodeLitlen (e : Entry) (inb : List Byte) (c : Nat) : Except DecodeError Instr :=
  if e.literal then .ok (.lit e.cwbits e.litByte)
  else if e.isEob then .ok (.eob e.cwbits)
  else if e.exceptional then
    if e.sym.toNat = 287 then .ok (.len287 e.cwbits)
    else if e.sym.toNat = 286 then .ok (.len286 e.cwbits) else .error .noLitlenSymbol
  else match lenInstr e.sym.toNat e.cwbits (extraValue e inb c) with
    | some i => .ok i
    | none   => .error .noLitlenSymbol

/-- 43 R611, R605: the element of the offset entry `e`, after `lookup`, at cursor `c`. -/
def decodeOffset (e : Entry) (inb : List Byte) (c : Nat) : Except DecodeError Instr :=
  if e.exceptional then
    if e.sym.toNat = 31 then .ok (.dist31 e.cwbits)
    else if e.sym.toNat = 30 then .ok (.dist30 e.cwbits) else .error .noOffsetSymbol
  else match distInstr e.sym.toNat e.cwbits (extraValue e inb c) with
    | some i => .ok i
    | none   => .error .noOffsetSymbol

/-- 30 R316, R317: the host's command word, with its operands. -/
def decodeCommand (m : HostCmd) : Except DecodeError Instr :=
  match (m.word.extractLsb' 0 2).toNat with
  | 0 => if m.word.extractLsb' 4 28 = 0 then .ok (.cmdReset (m.word.extractLsb' 2 2)) else .error .reservedCommandBits
  | 1 => if m.word.extractLsb' 4 28 = 0
         then .ok (.cmdDecompress (m.word.getLsbD 2) (m.word.getLsbD 3) m.inBytes m.outN)
         else .error .reservedCommandBits
  | 2 => .ok (.cmdReserved2 (m.word.extractLsb' 2 30))
  | _ => .ok (.cmdReserved3 (m.word.extractLsb' 2 30))

/-- Which format a word of spec/opcode_table.json is read in, from its number of bits and its value. The table numbers
a row of a Huffman-coded format by its SYMBOL (30 R300), so a word of 8 bits stands in several formats: it is read as
the first row of the table whose match value it is, among the block headers and the precode symbols, and else as an
offset symbol. Up to 16 bits it is a lit/len symbol, and beyond that a command word. DESIGN CHOICE, log entry 20. -/
def tableFormat (nbits w : Nat) : Format :=
  if nbits ≤ 8 then
    if w = 0 ∨ w = 2 ∨ w = 4 ∨ w = 6 then .blkhdr
    else if w = 16 ∨ w = 17 ∨ w = 18 then .presym
    else .offset
  else if nbits ≤ 16 then .litlen
  else .cmd

/-- How many bytes of zeros follow a word that is placed for the decoder: more than the longest element takes. -/
def tablePad : Nat := 8

/-- The bytes of IN under which a table word is decoded: a block header's own bits; for a symbol, its one-bit codeword
and extra bits, all zero (any bit is a codeword of a code with a single symbol of length 1, 41 R456). -/
def tableBytes (nbits w : Nat) : List Byte :=
  match tableFormat nbits w with
  | .blkhdr => BitVec.ofNat 8 w :: List.replicate tablePad 0
  | .pcl | .presym | .litlen | .offset | .cmd => List.replicate tablePad 0

/-- The entry that symbol `w` has in a code where it is the single symbol, of length 1 (41 R456, case b). -/
def tableEntry (nbits w : Nat) : Entry :=
  match tableFormat nbits w with
  | .presym => makeEntry tmplPrecode w 1
  | .litlen => makeEntry (tmplLitlen reservedSymbolPolicy) w 1
  | .offset => makeEntry (tmplOffset reservedSymbolPolicy) w 1
  | .blkhdr | .pcl | .cmd => default

/-- The command of a table word: the word, no input, no capacity. -/
def tableCommand (w : Nat) : HostCmd := ⟨BitVec.ofNat 32 w, [], 0⟩

/-- The instruction the decoder reads from a word of spec/opcode_table.json (for the host's reading of the table). -/
def decodeTableWord (nbits w : Nat) : Option Instr :=
  match tableFormat nbits w with
  | .blkhdr => some (decodeBlockHeader (tableBytes nbits w) 0)
  | .pcl    => some (decodePcl (tableBytes nbits w) 0)
  | .presym => (decodePresym (tableEntry nbits w) (tableBytes nbits w) 0).toOption
  | .litlen => if w < numLitlenSyms then (decodeLitlen (tableEntry nbits w) (tableBytes nbits w) 0).toOption else none
  | .offset => if w < numOffsetSyms then (decodeOffset (tableEntry nbits w) (tableBytes nbits w) 0).toOption else none
  | .cmd    => (decodeCommand (tableCommand w)).toOption

/-- The parts an element is encoded from. -/
inductive Layout where
  /-- Bits fixed by the format, in stream order (a command word: bit 0 first). -/
  | fixed (bits : List Bool)
  /-- A symbol of a Huffman code, `cw` codeword bits being left to consume, then `xw` extra bits of value `x`. -/
  | coded (f : Format) (sym cw xw x : Nat)
  deriving DecidableEq, Repr

/-- The layout of every instruction: 30 R312, R314, R315, R309, R310, R316. -/
def Instr.layout (i : Instr) : Layout :=
  match i with
  | .blockStored final => .fixed (final :: fieldBits 2 0)
  | .blockFixed final => .fixed (final :: fieldBits 2 1)
  | .blockDynamic final hlit hdist hclen => .fixed (final :: fieldBits 2 2 ++ fieldBits 5 hlit.toNat ++ fieldBits 5 hdist.toNat ++ fieldBits 4 hclen.toNat)
  | .blockReserved final => .fixed (final :: fieldBits 2 3)
  | .pcl l => .fixed (fieldBits 3 l.toNat)
  | .cl cw n => .coded .presym n.toNat cw.toNat 0 0
  | .clRepPrev cw x => .coded .presym 16 cw.toNat 2 x.toNat
  | .clZero cw x => .coded .presym 17 cw.toNat 3 x.toNat
  | .clZeroLong cw x => .coded .presym 18 cw.toNat 7 x.toNat
  | .lit cw b => .coded .litlen b.toNat cw.toNat 0 0
  | .eob cw => .coded .litlen 256 cw.toNat 0 0
  | .len257 cw => .coded .litlen 257 cw.toNat 0 0
  | .len258 cw => .coded .litlen 258 cw.toNat 0 0
  | .len259 cw => .coded .litlen 259 cw.toNat 0 0
  | .len260 cw => .coded .litlen 260 cw.toNat 0 0
  | .len261 cw => .coded .litlen 261 cw.toNat 0 0
  | .len262 cw => .coded .litlen 262 cw.toNat 0 0
  | .len263 cw => .coded .litlen 263 cw.toNat 0 0
  | .len264 cw => .coded .litlen 264 cw.toNat 0 0
  | .len265 cw x => .coded .litlen 265 cw.toNat 1 x.toNat
  | .len266 cw x => .coded .litlen 266 cw.toNat 1 x.toNat
  | .len267 cw x => .coded .litlen 267 cw.toNat 1 x.toNat
  | .len268 cw x => .coded .litlen 268 cw.toNat 1 x.toNat
  | .len269 cw x => .coded .litlen 269 cw.toNat 2 x.toNat
  | .len270 cw x => .coded .litlen 270 cw.toNat 2 x.toNat
  | .len271 cw x => .coded .litlen 271 cw.toNat 2 x.toNat
  | .len272 cw x => .coded .litlen 272 cw.toNat 2 x.toNat
  | .len273 cw x => .coded .litlen 273 cw.toNat 3 x.toNat
  | .len274 cw x => .coded .litlen 274 cw.toNat 3 x.toNat
  | .len275 cw x => .coded .litlen 275 cw.toNat 3 x.toNat
  | .len276 cw x => .coded .litlen 276 cw.toNat 3 x.toNat
  | .len277 cw x => .coded .litlen 277 cw.toNat 4 x.toNat
  | .len278 cw x => .coded .litlen 278 cw.toNat 4 x.toNat
  | .len279 cw x => .coded .litlen 279 cw.toNat 4 x.toNat
  | .len280 cw x => .coded .litlen 280 cw.toNat 4 x.toNat
  | .len281 cw x => .coded .litlen 281 cw.toNat 5 x.toNat
  | .len282 cw x => .coded .litlen 282 cw.toNat 5 x.toNat
  | .len283 cw x => .coded .litlen 283 cw.toNat 5 x.toNat
  | .len284 cw x => .coded .litlen 284 cw.toNat 5 x.toNat
  | .len285 cw => .coded .litlen 285 cw.toNat 0 0
  | .len286 cw => .coded .litlen 286 cw.toNat 0 0
  | .len287 cw => .coded .litlen 287 cw.toNat 0 0
  | .dist0 cw => .coded .offset 0 cw.toNat 0 0
  | .dist1 cw => .coded .offset 1 cw.toNat 0 0
  | .dist2 cw => .coded .offset 2 cw.toNat 0 0
  | .dist3 cw => .coded .offset 3 cw.toNat 0 0
  | .dist4 cw y => .coded .offset 4 cw.toNat 1 y.toNat
  | .dist5 cw y => .coded .offset 5 cw.toNat 1 y.toNat
  | .dist6 cw y => .coded .offset 6 cw.toNat 2 y.toNat
  | .dist7 cw y => .coded .offset 7 cw.toNat 2 y.toNat
  | .dist8 cw y => .coded .offset 8 cw.toNat 3 y.toNat
  | .dist9 cw y => .coded .offset 9 cw.toNat 3 y.toNat
  | .dist10 cw y => .coded .offset 10 cw.toNat 4 y.toNat
  | .dist11 cw y => .coded .offset 11 cw.toNat 4 y.toNat
  | .dist12 cw y => .coded .offset 12 cw.toNat 5 y.toNat
  | .dist13 cw y => .coded .offset 13 cw.toNat 5 y.toNat
  | .dist14 cw y => .coded .offset 14 cw.toNat 6 y.toNat
  | .dist15 cw y => .coded .offset 15 cw.toNat 6 y.toNat
  | .dist16 cw y => .coded .offset 16 cw.toNat 7 y.toNat
  | .dist17 cw y => .coded .offset 17 cw.toNat 7 y.toNat
  | .dist18 cw y => .coded .offset 18 cw.toNat 8 y.toNat
  | .dist19 cw y => .coded .offset 19 cw.toNat 8 y.toNat
  | .dist20 cw y => .coded .offset 20 cw.toNat 9 y.toNat
  | .dist21 cw y => .coded .offset 21 cw.toNat 9 y.toNat
  | .dist22 cw y => .coded .offset 22 cw.toNat 10 y.toNat
  | .dist23 cw y => .coded .offset 23 cw.toNat 10 y.toNat
  | .dist24 cw y => .coded .offset 24 cw.toNat 11 y.toNat
  | .dist25 cw y => .coded .offset 25 cw.toNat 11 y.toNat
  | .dist26 cw y => .coded .offset 26 cw.toNat 12 y.toNat
  | .dist27 cw y => .coded .offset 27 cw.toNat 12 y.toNat
  | .dist28 cw y => .coded .offset 28 cw.toNat 13 y.toNat
  | .dist29 cw y => .coded .offset 29 cw.toNat 13 y.toNat
  | .dist30 cw => .coded .offset 30 cw.toNat 0 0
  | .dist31 cw => .coded .offset 31 cw.toNat 0 0
  | .cmdReset flags => .fixed (fieldBits 2 0 ++ fieldBits 2 flags.toNat ++ fieldBits 28 0)
  | .cmdDecompress wantIn wantOut _ _ => .fixed (fieldBits 2 1 ++ [wantIn, wantOut] ++ fieldBits 28 0)
  | .cmdReserved2 rest => .fixed (fieldBits 2 2 ++ fieldBits 30 rest.toNat)
  | .cmdReserved3 rest => .fixed (fieldBits 2 3 ++ fieldBits 30 rest.toNat)

/-- The codeword of symbol `s` as it stands in the stream (30 R302, 41 R468). -/
def symbolBits (lens : List Nat) (s : Nat) : List Bool := codewordBits (lens.getD s 0) (canonCode lens s)

/-- The encoder: the stream bits of an element in the codes in force (30 R323), or the 32 bits of a command word
(30 R316; the operands of DECOMPRESS travel beside the word, R317). What BLOCK_STORED carries behind its header (pad,
LEN, NLEN, data: 30 R313) is `storedBody`. -/
def encode (k : Codes) (i : Instr) : List Bool :=
  match i.layout with
  | .fixed bits => bits
  | .coded f sym _ xw x => symbolBits (k.lens f) sym ++ fieldBits xw x

/-- 30 R313: the bytes of a stored block behind its header and pad: LEN and NLEN = ~LEN, little-endian, then the data. -/
def storedBody (data : List Byte) : List Byte :=
  let len := BitVec.ofNat 16 data.length
  let nlen := len ^^^ 0xFFFF#16
  [len.extractLsb' 0 8, len.extractLsb' 8 8, nlen.extractLsb' 0 8, nlen.extractLsb' 8 8] ++ data

/-- 30 R316, R317: the command a command word of `word` bits is submitted as, with the operands of its instruction;
none for a stream element. -/
def commandOf (i : Instr) : Option HostCmd :=
  let word := BitVec.ofNat 32 (bitsValue (encode fixedCodes i))
  match i.layout, i with
  | _, .cmdDecompress _ _ inBytes outN => some ⟨word, inBytes, outN⟩
  | .fixed bits, _ => if bits.length = 32 then some ⟨word, [], 0⟩ else none
  | .coded .., _ => none

/-- 30 R324: the symbol whose range holds `v`: the last one whose base is at most `v` (a length of 258 is symbol 285). -/
def lastBase (bases : List Nat) (v : Nat) : Nat := (bases.filter fun b => b ≤ v).length - 1

/-- 30 R324: the pseudo-instruction `MATCH len, dist`: LEN_s x, then DIST_d y, in the codes in force. -/
def matchInstrs (k : Codes) (len dist : Nat) : Option (Instr × Instr) :=
  if 3 ≤ len ∧ len ≤ 258 ∧ 1 ≤ dist ∧ dist ≤ 32768 then
    let s := 257 + lastBase lenBases len
    let d := lastBase offBases dist
    match lenInstr s (BitVec.ofNat 4 (k.litlen.getD s 0)) (len - lenBase s),
          distInstr d (BitVec.ofNat 4 (k.offset.getD d 0)) (dist - offBase d) with
    | some i, some j => some (i, j)
    | _, _ => none
  else none

end Sys2Proof
end

