-- ==== Sys2Proof/Machine/State.lean ====
section
/-! DEFINITION. The state of the block (10_state), why a step can stop, and the state after reset. -/

namespace Sys2Proof.Machine
open Sys2Proof

/-- OUT as the bytes the rules have written in the running or last command, by index: addresses strictly rising, an
address listed once. An address that is not listed has no value (20_memory R203: the block reads back only what this
command has written). Log entry 7; safe. -/
abbrev Memory := List Host.Cell

/-- 10_state R117, 30_encoding R318: the four result codes. -/
inductive Result where
  | success | badData | shortOutput | insufficientSpace
  deriving DecidableEq, Repr

/-- Which element the pseudocode decodes next while a command runs: the position inside 44 R704, 42 R519, 43 R600 and
43 R611. The model's own control state; log entry 2. -/
inductive Phase where
  /-- 42 R500, at the start of every block. -/
  | blockHeader
  /-- 42 R520, the precode length number `index`. -/
  | precodeLen
  /-- 42 R522, the code length number `index`. -/
  | codeLen
  /-- 43 R600, a lit/len symbol. -/
  | body
  /-- 43 R611, the offset symbol of a match of length `matchLen`. -/
  | offset
  deriving DecidableEq, Repr

/-- The datapath registers of the bit reader (10_state R119, 40_bit_reader R420). -/
structure Datapath where
  bitbuf        : BitVec 64
  bitsleft      : BitVec 8
  inNext        : Count
  overreadCount : BitVec 4
  deriving DecidableEq, Repr

/-- Why a command is ended with an error: the causes of 60_exceptions R801 and R802. The hardware does not report
the cause (R800): no field of the state holds it. -/
inductive Cause where
  | overread | storedHeaderTruncated | storedDataTruncated | badBlockType | lenNlen | overfullCode | incompleteCode
  | repeatNoPrevious | lensCountMismatch | offsetTooFar | reservedLitlen | reservedOffset
  | literalSpace | storedSpace | matchSpace
  deriving DecidableEq, Repr

/-- The state of the block. Names follow 10_state; fields past `dp` are the model's own (log entries 2, 3, 8, 9). -/
structure State where
  /-- R101, 19 entries. -/
  precodeLens       : List (BitVec 3)
  /-- R102, 457 entries. -/
  lens              : List (BitVec 4)
  /-- R103, 128 entries. -/
  precodeTable      : List Entry
  /-- R104, 2342 entries. -/
  litlenTable       : List Entry
  /-- R105, 402 entries. -/
  offsetTable       : List Entry
  /-- R106, 288 entries. -/
  sortedSyms        : List (BitVec 9)
  /-- R107. -/
  staticCodesLoaded : Bool
  /-- R108. -/
  litlenTablebits   : BitVec 4
  /-- `C`, R110: a natural number. -/
  c                 : Nat
  /-- `IN`, R111: the bytes of the command's input; `in_n` is their number. -/
  inBuf             : List Byte
  /-- `OUT`, R112. -/
  out               : Memory
  /-- `out_n`, R112. -/
  outN              : Count
  /-- `out_next`, R113. -/
  outNext           : Count
  /-- R114. -/
  final             : Bool
  /-- R115. -/
  nlit              : BitVec 9
  /-- R115. -/
  noff              : BitVec 6
  /-- R115. -/
  ncl               : BitVec 5
  /-- The flag operands of the running command (30 R317). -/
  wantIn            : Bool
  wantOut           : Bool
  /-- R116. -/
  busy              : Bool
  /-- R117. -/
  result            : Result
  actualIn          : Count
  actualOut         : Count
  actualInValid     : Bool
  actualOutValid    : Bool
  refused           : Bool
  /-- R119. -/
  dp                : Datapath
  /-- The element decoded next. -/
  phase             : Phase
  /-- The loop variable `i` of 42 R520 and R522. -/
  index             : Nat
  /-- The `length` of 43 R611, while its offset symbol is decoded. -/
  matchLen          : Nat
  /-- The command the host presents, taken by the next step (44 R700). -/
  port              : Option HostCmd
  /-- How many bytes of OUT the last response defines (20 R207). -/
  outDefined        : Count
  /-- The number of free values used. -/
  freeCtr           : Nat
  deriving DecidableEq, Repr

/-- Why the machine stops. None of these is a behaviour of the block: each marks a situation that the spec says cannot
arise. All are safe: the machine stops where a claim would have to be about a state no run reaches. -/
inductive Fault where
  /-- A table entry names no symbol of its alphabet. Raised by fetch. 43 R605 "(never)"; log entry 16; safe. -/
  | malformedEntry
  /-- A match copy reads a byte of OUT that this command has not written. Raised by the offset symbols. 20 R203 says it
  does not happen; log entry 7; safe. -/
  | outReadUnwritten
  /-- A build needs more entries than its table has. Raised by PCL, the precode symbols and BLOCK_FIXED. 41 R465 says it
  does not happen; log entry 13; safe. -/
  | tableOverflow
  deriving DecidableEq, Repr

/-- Why an instruction has no meaning. -/
inductive Refusal where
  /-- Raised by an arm of exec that has no meaning yet. No arm does. Safe. -/
  | notModelled (mnemonic : String)
  deriving DecidableEq, Repr

/-- What a meaning answers. -/
abbrev Out := Host.Outcome State Fault Refusal

/-- What fetching gives: an instruction with the state it runs in, a raise of the fetch itself (a codeword prefix that
crosses the end of IN), or a stop. -/
inductive Fetched where
  | instr  (i : Instr) (s : State)
  | raised (s : State)
  | stuck  (f : Fault)
  deriving DecidableEq, Repr

/-- 10 R119: every register is 0 at the start of a command. -/
def Datapath.zero : Datapath := ⟨0, 0, 0, 0⟩

/-- 10_state R123, 70 R900, R901: power-on, as if a RESET had just completed. The registers that R123 calls not live
are 0 (DESIGN CHOICE, log entry 5). -/
def State.reset : State where
  precodeLens       := List.replicate Config.numPrecodeSyms 0
  lens              := List.replicate Config.lensSize 0
  precodeTable      := List.replicate Config.precodeEnough ⟨0, 0⟩
  litlenTable       := List.replicate Config.litlenEnough ⟨0, 0⟩
  offsetTable       := List.replicate Config.offsetEnough ⟨0, 0⟩
  sortedSyms        := List.replicate Config.numLitlenSyms 0
  staticCodesLoaded := false
  litlenTablebits   := 0
  c                 := 0
  inBuf             := []
  out               := []
  outN              := 0
  outNext           := 0
  final             := false
  nlit              := 0
  noff              := 0
  ncl               := 0
  wantIn            := false
  wantOut           := false
  busy              := false
  result            := .success
  actualIn          := 0
  actualOut         := 0
  actualInValid     := false
  actualOutValid    := false
  refused           := false
  dp                := Datapath.zero
  phase             := .blockHeader
  index             := 0
  matchLen          := 0
  port              := none
  outDefined        := 0
  freeCtr           := 0

end Sys2Proof.Machine
end

