-- ==== Sys2Proof/Machine/BitReader.lean ====
section
/-! DEFINITION. The bit reader over the state: the abstract cursor (40_bit_reader section 1), which decides, and beside
it the datapath registers (section 2), which follow it. -/

namespace Sys2Proof.Machine
open Sys2Proof

/-- `in_n` (10 R111). -/
def State.inN (s : State) : Nat := s.inBuf.length

/-- 40 R424: `peek(n)` on the registers, `bitbuf[n−1:0]`; asked for `n ≤ bitsleft` only. The machine itself peeks on the
cursor (`State.peek`), which 40 R428 makes the same value; log entry 14. -/
def Datapath.peek (d : Datapath) (n : Nat) : Nat := (d.bitbuf.extractLsb' 0 n).toNat

/-- 40 R425: the registers after a consume of `n` bits. The check of R425 is the cursor's (R403, R428). -/
def Datapath.consume (d : Datapath) (n : Nat) : Datapath :=
  { d with bitbuf := d.bitbuf >>> n, bitsleft := d.bitsleft - BitVec.ofNat 8 n }

/-- 40 R421: the little-endian 64-bit word at index `a` of IN. -/
def inWord (inb : List Byte) (a : Nat) : BitVec 64 :=
  BitVec.ofNat 64 (bitsValue ((List.range 64).map fun i => (inRead inb (a + i / 8)).getLsbD (i % 8)))

/-- 40 R421: fast refill. -/
def Datapath.fastRefill (inb : List Byte) (d : Datapath) : Datapath :=
  { d with
    bitbuf   := d.bitbuf ||| (inWord inb d.inNext.toNat <<< (d.bitsleft.toNat % 64))
    inNext   := d.inNext + BitVec.ofNat 64 (7 - d.bitsleft.toNat / 8 % 8)
    bitsleft := d.bitsleft ||| 56 }

/-- 40 R422: one pass of the slow refill's loop: a byte of IN, or a synthetic zero byte. -/
def Datapath.slowByte (inb : List Byte) (d : Datapath) : Datapath :=
  if d.inNext.toNat < inb.length then
    { d with
      bitbuf   := d.bitbuf ||| ((inRead inb d.inNext.toNat).zeroExtend 64 <<< d.bitsleft.toNat)
      inNext   := d.inNext + 1
      bitsleft := d.bitsleft + 8 }
  else
    { d with overreadCount := d.overreadCount + 1, bitsleft := d.bitsleft + 8 }

/-- 40 R422: the slow refill's loop, at most `fuel` passes; 7 fill an empty buffer to K = 56. The loop's own raise
(over 8 synthetic bytes) is never reached (R422, R429) and is not taken here; log entry 14. -/
def Datapath.slowRefill (inb : List Byte) : Nat → Datapath → Datapath
  | 0,        d => d
  | fuel + 1, d => if d.bitsleft.toNat < Config.K then Datapath.slowRefill inb fuel (d.slowByte inb) else d

/-- 40 R421 to R423: a refill, fast where at least W/8 bytes of IN remain, else slow. -/
def Datapath.refill (inb : List Byte) (d : Datapath) : Datapath :=
  if Config.W / 8 ≤ inb.length - d.inNext.toNat then d.fastRefill inb else d.slowRefill inb 8

/-- 40 R426, R427: the cursor index rewound by the whole bytes that were loaded and not consumed. -/
def Datapath.rewound (d : Datapath) : Count :=
  d.inNext - BitVec.ofNat 64 (d.bitsleft.toNat / 8 - d.overreadCount.toNat)

/-- 40 R426. -/
def Datapath.align (d : Datapath) : Datapath := ⟨0, 0, d.rewound, 0⟩

/-- 40 R406 on the registers, after an alignment has emptied the buffer: the next byte is read from IN directly.
DEDUCED from R428, log entry 14. -/
def Datapath.nextByte (d : Datapath) : Datapath := { d with inNext := d.inNext + 1 }

/-- A refill point of 40 R423. It changes the datapath registers only (R407). -/
def State.refill (s : State) : State := { s with dp := s.dp.refill s.inBuf }

/-- 40 R423: "before each offset lookup, if fewer than 28 bits remain". -/
def State.refillForOffset (s : State) : State := if s.dp.bitsleft.toNat < 28 then s.refill else s

/-- 40 R402 at the cursor. -/
def State.peek (s : State) (n : Nat) : Nat := peekBits s.inBuf s.c n

/-- 40 R403, where the bits are there: the cursor moves over `n` bits. -/
def State.advance (s : State) (n : Nat) : State := { s with c := s.c + n, dp := s.dp.consume n }

/-- 40 R405. -/
def State.alignToByte (s : State) : State := { s with c := 8 * ((s.c + 7) / 8), dp := s.dp.align }

/-- 40 R406: the byte at an aligned cursor. -/
def State.thisByte (s : State) : Byte := inRead s.inBuf (s.c / 8)

/-- 40 R406: the cursor after a byte has been read. -/
def State.nextByte (s : State) : State := { s with c := s.c + 8, dp := s.dp.nextByte }

end Sys2Proof.Machine
end

