-- ==== Sys2Proof/Machine/Ops.lean ====
section
/-! DEFINITION. The operations the meanings share: OUT, the end of a command (normal, by an error, refused), the
acceptance of a command, consuming with its check, and the two halves of a match. -/

namespace Sys2Proof.Machine
open Sys2Proof

/-! ### OUT as memory -/

/-- The byte at an address, if this command has written one (20 R203). -/
def Memory.read : Memory → Nat → Option Byte
  | [],           _ => none
  | (a, v) :: m, x => if x = a then some v else Memory.read m x

/-- Writes a byte, keeping addresses strictly rising (20 R202). -/
def Memory.write : Memory → Nat → Byte → Memory
  | [],           x, w => [(x, w)]
  | (a, v) :: m, x, w =>
    if x < a then (x, w) :: (a, v) :: m
    else if x = a then (a, w) :: m
    else (a, v) :: Memory.write m x w

/-- The canonical form: addresses strictly rising. No entry equals what an unlisted address reads as, since that is no
value at all. -/
def Memory.wf : Memory → Bool
  | []              => true
  | [_]             => true
  | p :: q :: m => decide (p.1 < q.1) && Memory.wf (q :: m)

/-- 20 R202, 43 R601, R613: writes the next byte of OUT. -/
def State.emit (s : State) (v : Byte) : State :=
  { s with out := Memory.write s.out s.outNext.toNat v, outNext := s.outNext + 1 }

/-- What the host reads at index `a` of OUT (20 R207, 70 R904): a byte that the last response defines; below `out_n`
any value otherwise; nothing at or past `out_n`, where the block never writes. DESIGN CHOICE, log entry 8, unsafe: a free
value is one byte per index from the end of one command to the end of the next, since `freeCtr` moves only in `finish` and
`raise`; the spec lets such a byte change at any moment. -/
def State.hostOut (s : State) (a : Nat) : Option Byte :=
  if a < s.outN.toNat then
    if s.busy = false ∧ a < s.outDefined.toNat then Memory.read s.out a
    else some (Config.freeByte s.freeCtr a)
  else none

/-! ### The end of a command, and the start of one -/

/-- 30 R318: the 2-bit code of a result. -/
def Result.code : Result → BitVec 2
  | .success           => 0
  | .badData           => 1
  | .shortOutput       => 2
  | .insufficientSpace => 3

/-- 60 R801, R802: the result a cause ends the command with. -/
def Cause.result : Cause → Result
  | .literalSpace | .storedSpace | .matchSpace => .insufficientSpace
  | .overread | .storedHeaderTruncated | .storedDataTruncated | .badBlockType | .lenNlen | .overfullCode
  | .incompleteCode | .repeatNoPrevious | .lensCountMismatch | .offsetTooFar | .reservedLitlen | .reservedOffset =>
    .badData

/-- TAKING AN EXCEPTION: `raise R(info)`, 60 R800, through `end_with_error(R)`, 44 R710. The result takes the code, the
valid bits fall, the command ends. The counts of a fallen valid bit hold any value (44 R705): free values. No OUT byte
is defined any more (20 R207). Everything else keeps what the rules wrote (60 R805). There is no handler and no return
from one (60 R807): the host's next command, `State.accept`, is what follows. -/
def State.raise (s : State) (e : Cause) : State :=
  { s with
    result         := e.result
    actualInValid  := false
    actualOutValid := false
    actualIn       := Config.freeCount s.freeCtr
    actualOut      := Config.freeCount (s.freeCtr + 1)
    freeCtr        := s.freeCtr + 2
    outDefined     := 0
    busy           := false }

/-- 44 R708, R709: the result of a stream that ended normally. -/
def State.finalResult (s : State) : Result :=
  if s.wantOut = false ∧ s.outNext ≠ s.outN then .shortOutput else .success

/-- 44 R705: `finish()`, with the datapath's rewind of 40 R427. -/
def State.finish (s : State) : State :=
  { s with
    result         := s.finalResult
    actualInValid  := s.wantIn
    actualIn       := if s.wantIn then BitVec.ofNat 64 ((s.c + 7) / 8) else Config.freeCount s.freeCtr
    actualOutValid := s.wantOut && decide (s.finalResult = .success)
    actualOut      := if s.wantOut && decide (s.finalResult = .success) then s.outNext
                      else Config.freeCount (s.freeCtr + 1)
    freeCtr        := s.freeCtr + 2
    outDefined     := s.outNext
    dp             := { s.dp with inNext := s.dp.rewound }
    busy           := false }

/-- 44 R704: after a block, the next block's header, or the end of the stream after the final block. -/
def State.endBlock (s : State) : State :=
  if s.final then s.finish else { s with phase := .blockHeader }

/-- 44 R702: a command that is not accepted. -/
def State.refuse (s : State) : State := { s with refused := true }

/-- 44 R703: a DECOMPRESS is accepted. OUT is the buffer this command names, with nothing written yet. -/
def State.accept (s : State) (wantIn wantOut : Bool) (inBytes : List Byte) (outN : Count) : State :=
  { s with
    busy       := true
    refused    := false
    c          := 0
    outNext    := 0
    inBuf      := inBytes
    out        := []
    outN       := outN
    wantIn     := wantIn
    wantOut    := wantOut
    dp         := Datapath.zero
    phase      := .blockHeader
    outDefined := 0 }

/-- 44 R701, 10 R123: every persistent element and the response registers at their reset values. Per-command state,
OUT and what the host may read of it, and the command port are not RESET's (log entry 6). -/
def State.resetObject (s : State) : State :=
  { s with
    precodeLens       := State.reset.precodeLens
    lens              := State.reset.lens
    precodeTable      := State.reset.precodeTable
    litlenTable       := State.reset.litlenTable
    offsetTable       := State.reset.offsetTable
    sortedSyms        := State.reset.sortedSyms
    staticCodesLoaded := false
    litlenTablebits   := 0
    busy              := false
    result            := .success
    actualIn          := 0
    actualOut         := 0
    actualInValid     := false
    actualOutValid    := false
    refused           := false }

/-! ### Consuming -/

/-- 40 R403: `consume(n)`, then `k`; a consume that would take a synthetic bit raises BAD_DATA(overread). -/
def State.consume (s : State) (n : Nat) (k : State → Out) : Out :=
  if s.c + n ≤ 8 * s.inN then k (s.advance n) else .next (s.raise .overread)

/-! ### Matches -/

/-- 43 R606, R611: a length symbol of `bits` bits in all: its value is the length of a match, and the offset symbol
comes next. -/
def State.lengthElement (s : State) (bits length : Nat) : Out :=
  s.consume bits fun s1 => .next { s1 with matchLen := length, phase := .offset }

/-- 43 R649, R650: a reserved lit/len symbol. Under `reject` it raises before its codeword is consumed; under
`reference` it is a length of 258 with no extra bits. -/
def State.reservedLength (s : State) (p : Config.ReservedPolicy) (cw : Nat) : Out :=
  match p with
  | .reject    => .next (s.raise .reservedLitlen)
  | .reference => s.lengthElement cw 258

/-- 43 R613: `copy(length, offset)`, byte by byte, in order. None where a byte is read that was never written. -/
def State.copyMatch (offset : Nat) : Nat → State → Option State
  | 0,     s => some s
  | n + 1, s =>
    match Memory.read s.out (s.outNext.toNat - offset) with
    | some v => State.copyMatch offset n (s.emit v)
    | none   => none

/-- 43 R609, R612, R613: the checks of a match whose offset is decoded, then the copy, then the next lit/len symbol. -/
def State.doMatch (s : State) (offset : Nat) : Out :=
  if s.outNext.toNat < offset then .next (s.raise .offsetTooFar)
  else if s.outN.toNat - s.outNext.toNat < s.matchLen then .next (s.raise .matchSpace)
  else match State.copyMatch offset s.matchLen s with
    | some t => .next { t with phase := .body }
    | none   => .fault .outReadUnwritten

/-- 43 R606, R611: an offset symbol of `bits` bits in all. -/
def State.offsetElement (s : State) (bits offset : Nat) : Out :=
  s.consume bits fun s1 => s1.doMatch offset

/-- 43 R690, R691: a reserved offset symbol. Under `reference` it has base 24577 and 13 extra bits. -/
def State.reservedOffset (s : State) (p : Config.ReservedPolicy) (cw : Nat) : Out :=
  match p with
  | .reject    => .next (s.raise .reservedOffset)
  | .reference => s.offsetElement (cw + 13) (24577 + peekBits s.inBuf (s.c + cw) 13)

end Sys2Proof.Machine
end

