-- ==== Sys2Proof/Machine/TableBuilder.lean ====
section
/-! DEFINITION. The Huffman decode-table builder (41_table_builder): first as a function of code lengths, then the
three instances of R451 over the state. -/

namespace Sys2Proof.Machine
open Sys2Proof

/-- Why a build gives no table: 41 R454, 41 R456, and the case that 41 R465 excludes. -/
inductive BuildError where
  | overfull | incomplete | overflow
  deriving DecidableEq, Repr

/-- 41 R453: `count[l]`. -/
def countLen (lens : List Nat) (l : Nat) : Nat := lens.count l

/-- 41 R452: the longest used length at most the given one, or 1. -/
def maxLen (lens : List Nat) : Nat → Nat
  | 0     => 1
  | l + 1 => if l = 0 ∨ countLen lens (l + 1) ≠ 0 then l + 1 else maxLen lens l

/-- 41 R452: the root width `T`. -/
def rootBits (lens : List Nat) (tmax L : Nat) (reduce : Bool) : Nat :=
  if reduce then min tmax (maxLen lens L) else tmax

/-- 41 R454: the codespace used by lengths `1..l`, `used <- 2·used + count[l]` for each. -/
def usedSpace (lens : List Nat) : Nat → Nat
  | 0     => 0
  | l + 1 => 2 * usedSpace lens l + countLen lens (l + 1)

/-- 41 R455: the used symbols by (length, symbol), each with its length. -/
def sortSyms (lens : List Nat) (L : Nat) : List (Nat × Nat) :=
  (List.range L).flatMap fun l => lens.zipIdx.filterMap fun p => if p.1 = l + 1 then some (p.2, l + 1) else none

/-- The table being filled: its first `curEnd` entries, and the bit-reversed codeword (41 R458). -/
structure Fill where
  table    : List Entry
  curEnd   : Nat
  codeword : Nat
  deriving DecidableEq, Repr

/-- 41 R459: the next bit-reversed codeword. -/
def advanceCode (codeword size : Nat) : Nat :=
  let bit := 2 ^ Nat.log2 (codeword ^^^ (size - 1))
  (codeword &&& (bit - 1)) ||| bit

/-- 41 R460: `mirror()`, `n` times. -/
def Fill.mirror : Nat → Fill → Fill
  | 0,     f => f
  | n + 1, f => Fill.mirror n { f with table := f.table ++ f.table, curEnd := 2 * f.curEnd }

/-- 41 R458: the main table, over the sorted symbols from the current one on; `len` is the length the table has been
grown to. Answers the fill and the symbols whose codewords are longer than `T`. -/
def fillMain (mk : Nat → Nat → Entry) (T : Nat) : List (Nat × Nat) → Nat → Fill → Fill × List (Nat × Nat)
  | [], len, f => (f.mirror (T - len), [])
  | (s, l) :: rest, len, f =>
    if T < l then (f.mirror (T - len), (s, l) :: rest)
    else
      let g := f.mirror (l - len)
      let h := { g with table := g.table.set g.codeword (mk s l) }
      if h.codeword = h.curEnd - 1 then (h.mirror (T - l), [])
      else fillMain mk T rest l { h with codeword := advanceCode h.codeword h.curEnd }

/-- 41 R462: a subtable's width: `while cs < 2^sub_bits: sub_bits <- sub_bits + 1; cs <- 2·cs + count[T + sub_bits]`,
at most `fuel` times. -/
def growSub (lens : List Nat) (T : Nat) : Nat → Nat → Nat → Nat
  | 0,        sub, _  => sub
  | fuel + 1, sub, cs =>
    if cs < 2 ^ sub then growSub lens T fuel (sub + 1) (2 * cs + countLen lens (T + sub + 1)) else sub

/-- 41 R464: the entry in every `step`-th slot from `j` on, `n` slots. -/
def fillStride (e : Entry) (step : Nat) : Nat → Nat → List Entry → List Entry
  | 0,     _, t => t
  | n + 1, j, t => fillStride e step n (j + step) (t.set j e)

/-- 41 R461: the subtable of the current prefix: its root index, its start and its width. -/
structure Sub where
  pre   : Nat
  start : Nat
  bits  : Nat
  deriving DecidableEq, Repr

/-- 41 R461 to R463: the subtable for the current codeword, of length `l`: the present one if the prefix has not
changed, else a new one behind the table, with its pointer in the main table. `cnt` codewords of length `l` remain. -/
def openSub (lens : List Nat) (T l cnt : Nat) (cur : Option Sub) (f : Fill) : Sub × Fill :=
  let pre := f.codeword &&& (2 ^ T - 1)
  let fresh : Sub := ⟨pre, f.curEnd, growSub lens T Config.maxCodewordLen (l - T) cnt⟩
  let grown : Fill :=
    { f with
      table  := f.table.set pre (pointerEntry fresh.start fresh.bits T) ++ List.replicate (2 ^ fresh.bits) default
      curEnd := f.curEnd + 2 ^ fresh.bits }
  match cur with
  | some b => if b.pre = pre then (b, f) else (fresh, grown)
  | none   => (fresh, grown)

/-- 41 R461: the subtable phase, over the symbols that remain. -/
def fillSub (lens : List Nat) (mk : Nat → Nat → Entry) (T : Nat) : List (Nat × Nat) → Option Sub → Fill → Fill
  | [], _, f => f
  | (s, l) :: rest, cur, f =>
    let cnt := 1 + rest.countP fun p => p.2 = l
    let (b, g) := openSub lens T l cnt cur f
    let h := { g with
      table := fillStride (mk s (l - T)) (2 ^ (l - T)) (2 ^ (b.bits - (l - T))) (b.start + g.codeword / 2 ^ T) g.table }
    if h.codeword = 2 ^ l - 1 then h
    else fillSub lens mk T rest (some b) { h with codeword := advanceCode h.codeword (2 ^ l) }

/-- 41 R458 to R464: the table of a complete code, its first `curEnd` entries. Where the shortest codeword is longer
than `T`, the main phase does nothing and the subtables begin at `2^T` (41 R461). -/
def fillTable (lens : List Nat) (mk : Nat → Nat → Entry) (T L : Nat) : Fill :=
  let syms := sortSyms lens L
  let first := min T ((syms.head?.map Prod.snd).getD 1)
  let start : Fill := ⟨List.replicate (2 ^ first) default, 2 ^ first, 0⟩
  let (f, rest) := fillMain mk T syms first start
  fillSub lens mk T rest none f

/-- 41 R450 to R464: `build`: the first entries of the table, all it initialises, or why it fails. -/
def buildTable (lens : List Nat) (mk : Nat → Nat → Entry) (T L enough : Nat) : Except BuildError (List Entry) :=
  let m := maxLen lens L
  let used := usedSpace lens m
  if 2 ^ m < used then .error .overfull
  else if used < 2 ^ m then
    if used = 0 then .ok (List.replicate (2 ^ T) (mk 0 1))
    else if used = 2 ^ (m - 1) ∧ countLen lens 1 = 1 then
      .ok (List.replicate (2 ^ T) (mk (((sortSyms lens L).head?.map Prod.fst).getD 0) 1))
    else .error .incomplete
  else
    let f := fillTable lens mk T L
    if f.curEnd ≤ enough then .ok f.table else .error .overflow

/-- The first cells of an array take the new values; the rest keep theirs. -/
def overlay {α : Type} (new old : List α) : List α := new ++ old.drop new.length

/-- 41 R455: `sorted_syms` after a sort. -/
def installSorted (lens : List Nat) (L : Nat) (old : List (BitVec 9)) : List (BitVec 9) :=
  overlay ((sortSyms lens L).map fun p => BitVec.ofNat 9 p.1) old

/-- An array whose cells all hold any value (41 R469, 93 I11). -/
def freeTable (use n : Nat) : List Entry := (List.range n).map (Config.freeEntry use)
def freeSorted (use n : Nat) : List (BitVec 9) := (List.range n).map (Config.freeSym use)

/-! ### The three instances (41 R451) -/

/-- `precode_lens[0..18]`. -/
def State.precodeLengths (s : State) : List Nat := s.precodeLens.map BitVec.toNat
/-- `lens[0..nlit−1]`. -/
def State.litlenLengths (s : State) : List Nat := (s.lens.take s.nlit.toNat).map BitVec.toNat
/-- `lens[nlit..nlit+noff−1]`. -/
def State.offsetLengths (s : State) : List Nat := ((s.lens.drop s.nlit.toNat).take s.noff.toNat).map BitVec.toNat

/-- The precode instance: S = 19, T = 7, L = 7, 128 entries. -/
def buildPrecodeTable (lens : List Nat) : Except BuildError (List Entry) :=
  buildTable lens (makeEntry tmplPrecode) Config.precodeTablebits Config.maxPreCodewordLen Config.precodeEnough

/-- The offset instance: T = 8, L = 15, 402 entries. -/
def buildOffsetTable (lens : List Nat) : Except BuildError (List Entry) :=
  buildTable lens (makeEntry (tmplOffset Config.reservedSymbolPolicy)) Config.offsetTablebits Config.maxCodewordLen
    Config.offsetEnough

/-- The lit/len instance's root width: at most 11, reduced to the longest used length (41 R452). -/
def litlenRootBits (lens : List Nat) : Nat := rootBits lens Config.litlenTablebits Config.maxCodewordLen true

/-- The lit/len instance: L = 15, 2342 entries. -/
def buildLitlenTable (lens : List Nat) : Except BuildError (List Entry) :=
  buildTable lens (makeEntry (tmplLitlen Config.reservedSymbolPolicy)) (litlenRootBits lens) Config.maxCodewordLen
    Config.litlenEnough

/-- A failed build raises BAD_DATA (41 R469, 42 R521). What it leaves in its table and in `sorted_syms` is any value
(93 I11): free values. -/
def State.failPrecode (s : State) (e : Cause) : Out :=
  .next (State.raise { s with
    precodeTable := freeTable s.freeCtr Config.precodeEnough
    sortedSyms   := freeSorted s.freeCtr Config.numLitlenSyms } e)

/-- As `failPrecode`, for the offset table. -/
def State.failOffset (s : State) (e : Cause) : Out :=
  .next (State.raise { s with
    offsetTable := freeTable s.freeCtr Config.offsetEnough
    sortedSyms  := freeSorted s.freeCtr Config.numLitlenSyms } e)

/-- As `failPrecode`, for the lit/len table; `litlen_tablebits` is written all the same (41 R452). -/
def State.failLitlen (s : State) (e : Cause) : Out :=
  .next (State.raise { s with
    litlenTable     := freeTable s.freeCtr Config.litlenEnough
    litlenTablebits := BitVec.ofNat 4 (litlenRootBits s.litlenLengths)
    sortedSyms      := freeSorted s.freeCtr Config.numLitlenSyms } e)

/-- The state after a precode build that gave the entries `t` (41 R450, R455). -/
def State.withPrecode (s : State) (t : List Entry) : State :=
  { s with
    precodeTable := overlay t s.precodeTable
    sortedSyms   := installSorted s.precodeLengths Config.maxPreCodewordLen s.sortedSyms }

/-- The state after an offset build that gave the entries `t`. -/
def State.withOffset (s : State) (t : List Entry) : State :=
  { s with
    offsetTable := overlay t s.offsetTable
    sortedSyms  := installSorted s.offsetLengths Config.maxCodewordLen s.sortedSyms }

/-- The state after a lit/len build that gave the entries `t`. -/
def State.withLitlen (s : State) (t : List Entry) : State :=
  { s with
    litlenTable     := overlay t s.litlenTable
    litlenTablebits := BitVec.ofNat 4 (litlenRootBits s.litlenLengths)
    sortedSyms      := installSorted s.litlenLengths Config.maxCodewordLen s.sortedSyms }

/-- 42 R521: builds the precode table, then `k`. -/
def State.buildPrecode (s : State) (k : State → Out) : Out :=
  match buildPrecodeTable s.precodeLengths with
  | .ok t              => k (s.withPrecode t)
  | .error .overfull   => s.failPrecode .overfullCode
  | .error .incomplete => s.failPrecode .incompleteCode
  | .error .overflow   => .fault .tableOverflow

/-- 42 R529: builds the offset table, then `k`. -/
def State.buildOffset (s : State) (k : State → Out) : Out :=
  match buildOffsetTable s.offsetLengths with
  | .ok t              => k (s.withOffset t)
  | .error .overfull   => s.failOffset .overfullCode
  | .error .incomplete => s.failOffset .incompleteCode
  | .error .overflow   => .fault .tableOverflow

/-- 42 R529: builds the lit/len table, then `k`. -/
def State.buildLitlen (s : State) (k : State → Out) : Out :=
  match buildLitlenTable s.litlenLengths with
  | .ok t              => k (s.withLitlen t)
  | .error .overfull   => s.failLitlen .overfullCode
  | .error .incomplete => s.failLitlen .incompleteCode
  | .error .overflow   => .fault .tableOverflow

/-- 42 R529: the offset table first, then the lit/len table, then `k`. -/
def State.buildCodes (s : State) (k : State → Out) : Out :=
  s.buildOffset fun s1 => s1.buildLitlen k

end Sys2Proof.Machine
end

