-- ==== Sys2Proof/Machine/BlockHeader.lean ====
section
/-! DEFINITION. The four block headers (42_block_header R500 to R519). -/

namespace Sys2Proof.Machine
open Sys2Proof

/-- 42 R500: `final <- bits(1)`, `btype <- bits(2)`, then the block's rule `k` (R502). -/
def State.blockHeader (s : State) (final : Bool) (k : State → Out) : Out :=
  s.consume 1 fun s1 => State.consume { s1 with final := final } 2 k

/-- 42 R506, 40 R406: a 16-bit little-endian field at an aligned cursor, then `k`. -/
def State.readHalf (s : State) (k : BitVec 16 → State → Out) : Out :=
  k ((s.nextByte.thisByte).append s.thisByte) s.nextByte.nextByte

/-- 42 R514: `n` data bytes from IN to OUT. -/
def State.copyStored : Nat → State → State
  | 0,     s => s
  | n + 1, s => State.copyStored n (s.emit s.thisByte).nextByte

/-- 42 R507 to R514: the complement check, the input check, the output check, the copy, the end of the block. -/
def State.storedData (s : State) (len nlen : BitVec 16) : Out :=
  if len ≠ nlen ^^^ 0xFFFF then .next (s.raise .lenNlen)
  else if s.inN - s.c / 8 < len.toNat then .next (s.raise .storedDataTruncated)
  else if s.outN.toNat - s.outNext.toNat < len.toNat then .next (s.raise .storedSpace)
  else .next (State.copyStored len.toNat s).endBlock

/-- 42 R504 to R506: what follows a stored block's header. -/
def State.storedBlock (s : State) : Out :=
  let s1 := s.alignToByte
  if 8 * s1.inN - s1.c < 32 then .next (s1.raise .storedHeaderTruncated)
  else s1.readHalf fun len s2 => s2.readHalf fun nlen s3 => s3.storedData len nlen

/-- 42 R511: the fixed code lengths and counts. -/
def State.fixedLengths (s : State) : State :=
  { s with
    lens := overlay ((fixedLitlenLens ++ fixedOffsetLens).map (BitVec.ofNat 4)) s.lens
    nlit := 288
    noff := 32 }

/-- 42 R510, R511: the fixed tables, unless they are loaded; then the body (R512). -/
def State.fixedBlock (s : State) : Out :=
  if s.staticCodesLoaded then .next { s with phase := .body }
  else s.fixedLengths.buildCodes fun s1 => .next { s1 with staticCodesLoaded := true, phase := .body }

/-- 42 R515 to R518: the three counts, one after another, and the flag cleared once they are read; then the precode
lengths (R520). -/
def State.dynamicBlock (s : State) (hlit hdist : BitVec 5) (hclen : BitVec 4) : Out :=
  s.refill.consume 5 fun s1 =>
    State.consume { s1 with nlit := BitVec.ofNat 9 (hlit.toNat + 257) } 5 fun s2 =>
      State.consume { s2 with noff := BitVec.ofNat 6 (hdist.toNat + 1) } 4 fun s3 =>
        .next { s3 with
          ncl               := BitVec.ofNat 5 (hclen.toNat + 4)
          staticCodesLoaded := false
          phase             := .precodeLen
          index             := 0 }

/-- BLOCK_STORED, 42 R504. -/
def execBlockStored (final : Bool) (s : State) : Out :=
  s.blockHeader final State.storedBlock

/-- BLOCK_FIXED, 42 R510. -/
def execBlockFixed (final : Bool) (s : State) : Out :=
  s.blockHeader final State.fixedBlock

/-- BLOCK_DYNAMIC, 42 R519, up to the count header; its precode lengths, code lengths and body are elements of their
own. -/
def execBlockDynamic (final : Bool) (hlit hdist : BitVec 5) (hclen : BitVec 4) (s : State) : Out :=
  s.blockHeader final fun s1 => s1.dynamicBlock hlit hdist hclen

/-- BLOCK_RESERVED, 42 R503. -/
def execBlockReserved (final : Bool) (s : State) : Out :=
  s.blockHeader final fun s1 => .next (s1.raise .badBlockType)

end Sys2Proof.Machine
end

