-- ==== Sys2Proof/Machine/CodeLength.lean ====
section
/-! DEFINITION. The precode lengths and the code-length symbols of a dynamic header (42_block_header R520 to R529). -/

namespace Sys2Proof.Machine
open Sys2Proof

/-- 42 R520: `precode_lens[PERM[i]] <- l`. -/
def State.setPrecodeLen (s : State) (i : Nat) (l : BitVec 3) : State :=
  { s with precodeLens := s.precodeLens.set (permAt i) l }

/-- 42 R520: `precode_lens[PERM[i]] <- 0` for `n` indices from `i` on. -/
def State.clearPrecodeLens : Nat → Nat → State → State
  | 0,     _, s => s
  | n + 1, i, s => State.clearPrecodeLens n (i + 1) (s.setPrecodeLen i 0)

/-- 42 R520, R521: after a precode length, the next one; after the last, the lengths not present are 0 and the precode
table is built; then the code lengths (R522). -/
def State.afterPrecodeLen (s : State) : Out :=
  if s.index < s.ncl.toNat then .next s
  else
    (State.clearPrecodeLens (Config.numPrecodeSyms - s.ncl.toNat) s.ncl.toNat s).buildPrecode fun s1 =>
      .next { s1 with phase := .codeLen, index := 0 }

/-- 42 R522: `total`. -/
def State.total (s : State) : Nat := s.nlit.toNat + s.noff.toNat

/-- 42 R522, R527, R529: after a code-length symbol, the next one; after the last, the count check, the two builds, and
the body (R530). -/
def State.afterLens (s : State) : Out :=
  if s.index < s.total then .next s
  else if s.index ≠ s.total then .next (s.raise .lensCountMismatch)
  else s.buildCodes fun s1 => .next { s1 with phase := .body }

/-- `n` cells of an array from index `i` on take the value `v`. -/
def setRun {α : Type} (v : α) : Nat → Nat → List α → List α
  | 0,     _, l => l
  | n + 1, i, l => setRun v n (i + 1) (l.set i v)

/-- 42 R523 to R526: `lens[i + k] <- v` for `k` below `r`, `i <- i + r`, and on. -/
def State.writeRun (s : State) (r : Nat) (v : BitVec 4) : Out :=
  State.afterLens { s with lens := setRun v r s.index s.lens, index := s.index + r }

/-- PCL, 42 R520. -/
def execPcl (l : BitVec 3) (s : State) : Out :=
  s.consume 3 fun s1 => State.afterPrecodeLen { s1.setPrecodeLen s1.index l with index := s1.index + 1 }

/-- CL, 42 R523. -/
def execCl (cw n : BitVec 4) (s : State) : Out :=
  s.consume cw.toNat fun s1 => s1.writeRun 1 n

/-- CL_REP_PREV, 42 R524: the check for a previous length comes before the extra bits are read. -/
def execClRepPrev (cw : BitVec 4) (x : BitVec 2) (s : State) : Out :=
  s.consume cw.toNat fun s1 =>
    if s1.index = 0 then .next (s1.raise .repeatNoPrevious)
    else s1.consume 2 fun s2 => s2.writeRun (3 + x.toNat) (s2.lens.getD (s2.index - 1) 0)

/-- CL_ZERO, 42 R525. -/
def execClZero (cw : BitVec 4) (x : BitVec 3) (s : State) : Out :=
  s.consume cw.toNat fun s1 => s1.consume 3 fun s2 => s2.writeRun (3 + x.toNat) 0

/-- CL_ZERO_LONG, 42 R526. -/
def execClZeroLong (cw : BitVec 4) (x : BitVec 7) (s : State) : Out :=
  s.consume cw.toNat fun s1 => s1.consume 7 fun s2 => s2.writeRun (11 + x.toNat) 0

end Sys2Proof.Machine
end

