-- ==== Sys2Proof/Machine/Command.lean ====
section
/-! DEFINITION. The host commands (44_decompressor R700 to R703). -/

namespace Sys2Proof.Machine
open Sys2Proof

/-- CMD_RESET, 44 R701; refused while a command runs (R702). Bits 3:2 are ignored. -/
def execCmdReset (_flags : BitVec 2) (s : State) : Out :=
  if s.busy then .next s.refuse else .next s.resetObject

/-- CMD_DECOMPRESS, 44 R703; refused while a command runs (R702). What follows its acceptance is `decode_stream()`,
element by element. -/
def execCmdDecompress (wantIn wantOut : Bool) (inBytes : List Byte) (outN : Count) (s : State) : Out :=
  if s.busy then .next s.refuse else .next (s.accept wantIn wantOut inBytes outN)

/-- CMD_RESERVED_2, 44 R702. -/
def execCmdReserved2 (_rest : BitVec 30) (s : State) : Out := .next s.refuse

/-- CMD_RESERVED_3, 44 R702. -/
def execCmdReserved3 (_rest : BitVec 30) (s : State) : Out := .next s.refuse

end Sys2Proof.Machine
end

