-- ==== Sys2Proof/Machine/Length.lean ====
section
/-! DEFINITION. The length symbols LEN_257 to LEN_287 (43_body_decode section 2). Each decodes its value
(43 R606: base plus extra bits) and then expects the one offset symbol that always follows (43 R611). -/

namespace Sys2Proof.Machine

/-- LEN_257, 43 R620. -/
def execLen257 (cw : BitVec 4) (s : State) : Out :=
  s.lengthElement (cw.toNat + 0) (3)

/-- LEN_258, 43 R621. -/
def execLen258 (cw : BitVec 4) (s : State) : Out :=
  s.lengthElement (cw.toNat + 0) (4)

/-- LEN_259, 43 R622. -/
def execLen259 (cw : BitVec 4) (s : State) : Out :=
  s.lengthElement (cw.toNat + 0) (5)

/-- LEN_260, 43 R623. -/
def execLen260 (cw : BitVec 4) (s : State) : Out :=
  s.lengthElement (cw.toNat + 0) (6)

/-- LEN_261, 43 R624. -/
def execLen261 (cw : BitVec 4) (s : State) : Out :=
  s.lengthElement (cw.toNat + 0) (7)

/-- LEN_262, 43 R625. -/
def execLen262 (cw : BitVec 4) (s : State) : Out :=
  s.lengthElement (cw.toNat + 0) (8)

/-- LEN_263, 43 R626. -/
def execLen263 (cw : BitVec 4) (s : State) : Out :=
  s.lengthElement (cw.toNat + 0) (9)

/-- LEN_264, 43 R627. -/
def execLen264 (cw : BitVec 4) (s : State) : Out :=
  s.lengthElement (cw.toNat + 0) (10)

/-- LEN_265, 43 R628. -/
def execLen265 (cw : BitVec 4) (x : BitVec 1) (s : State) : Out :=
  s.lengthElement (cw.toNat + 1) (11 + x.toNat)

/-- LEN_266, 43 R629. -/
def execLen266 (cw : BitVec 4) (x : BitVec 1) (s : State) : Out :=
  s.lengthElement (cw.toNat + 1) (13 + x.toNat)

/-- LEN_267, 43 R630. -/
def execLen267 (cw : BitVec 4) (x : BitVec 1) (s : State) : Out :=
  s.lengthElement (cw.toNat + 1) (15 + x.toNat)

/-- LEN_268, 43 R631. -/
def execLen268 (cw : BitVec 4) (x : BitVec 1) (s : State) : Out :=
  s.lengthElement (cw.toNat + 1) (17 + x.toNat)

/-- LEN_269, 43 R632. -/
def execLen269 (cw : BitVec 4) (x : BitVec 2) (s : State) : Out :=
  s.lengthElement (cw.toNat + 2) (19 + x.toNat)

/-- LEN_270, 43 R633. -/
def execLen270 (cw : BitVec 4) (x : BitVec 2) (s : State) : Out :=
  s.lengthElement (cw.toNat + 2) (23 + x.toNat)

/-- LEN_271, 43 R634. -/
def execLen271 (cw : BitVec 4) (x : BitVec 2) (s : State) : Out :=
  s.lengthElement (cw.toNat + 2) (27 + x.toNat)

/-- LEN_272, 43 R635. -/
def execLen272 (cw : BitVec 4) (x : BitVec 2) (s : State) : Out :=
  s.lengthElement (cw.toNat + 2) (31 + x.toNat)

/-- LEN_273, 43 R636. -/
def execLen273 (cw : BitVec 4) (x : BitVec 3) (s : State) : Out :=
  s.lengthElement (cw.toNat + 3) (35 + x.toNat)

/-- LEN_274, 43 R637. -/
def execLen274 (cw : BitVec 4) (x : BitVec 3) (s : State) : Out :=
  s.lengthElement (cw.toNat + 3) (43 + x.toNat)

/-- LEN_275, 43 R638. -/
def execLen275 (cw : BitVec 4) (x : BitVec 3) (s : State) : Out :=
  s.lengthElement (cw.toNat + 3) (51 + x.toNat)

/-- LEN_276, 43 R639. -/
def execLen276 (cw : BitVec 4) (x : BitVec 3) (s : State) : Out :=
  s.lengthElement (cw.toNat + 3) (59 + x.toNat)

/-- LEN_277, 43 R640. -/
def execLen277 (cw : BitVec 4) (x : BitVec 4) (s : State) : Out :=
  s.lengthElement (cw.toNat + 4) (67 + x.toNat)

/-- LEN_278, 43 R641. -/
def execLen278 (cw : BitVec 4) (x : BitVec 4) (s : State) : Out :=
  s.lengthElement (cw.toNat + 4) (83 + x.toNat)

/-- LEN_279, 43 R642. -/
def execLen279 (cw : BitVec 4) (x : BitVec 4) (s : State) : Out :=
  s.lengthElement (cw.toNat + 4) (99 + x.toNat)

/-- LEN_280, 43 R643. -/
def execLen280 (cw : BitVec 4) (x : BitVec 4) (s : State) : Out :=
  s.lengthElement (cw.toNat + 4) (115 + x.toNat)

/-- LEN_281, 43 R644. -/
def execLen281 (cw : BitVec 4) (x : BitVec 5) (s : State) : Out :=
  s.lengthElement (cw.toNat + 5) (131 + x.toNat)

/-- LEN_282, 43 R645. -/
def execLen282 (cw : BitVec 4) (x : BitVec 5) (s : State) : Out :=
  s.lengthElement (cw.toNat + 5) (163 + x.toNat)

/-- LEN_283, 43 R646. -/
def execLen283 (cw : BitVec 4) (x : BitVec 5) (s : State) : Out :=
  s.lengthElement (cw.toNat + 5) (195 + x.toNat)

/-- LEN_284, 43 R647. -/
def execLen284 (cw : BitVec 4) (x : BitVec 5) (s : State) : Out :=
  s.lengthElement (cw.toNat + 5) (227 + x.toNat)

/-- LEN_285, 43 R648. -/
def execLen285 (cw : BitVec 4) (s : State) : Out :=
  s.lengthElement (cw.toNat + 0) (258)

/-- LEN_286, 43 R649. -/
def execLen286 (cw : BitVec 4) (s : State) : Out :=
  s.reservedLength Config.reservedSymbolPolicy cw.toNat

/-- LEN_287, 43 R650. -/
def execLen287 (cw : BitVec 4) (s : State) : Out :=
  s.reservedLength Config.reservedSymbolPolicy cw.toNat

end Sys2Proof.Machine
end

