-- ==== Sys2Proof/Machine/Literal.lean ====
section
/-! DEFINITION. Literals and the end of a block (43_body_decode R601, R602). -/

namespace Sys2Proof.Machine
open Sys2Proof

/-- LIT, 43 R601: the consume comes first, then the space check. -/
def execLit (cw : BitVec 4) (b : Byte) (s : State) : Out :=
  s.consume cw.toNat fun s1 =>
    if s1.outNext = s1.outN then .next (s1.raise .literalSpace) else .next (s1.emit b)

/-- EOB, 43 R602: the block ends. -/
def execEob (cw : BitVec 4) (s : State) : Out :=
  s.consume cw.toNat fun s1 => .next s1.endBlock

end Sys2Proof.Machine
end

