-- ==== Sys2Proof/Machine/Offset.lean ====
section
/-! DEFINITION. The offset symbols DIST_0 to DIST_31 (43_body_decode section 3): the second half of a match
(43 R611), for the length that the length symbol before it left in `matchLen`. -/

namespace Sys2Proof.Machine

/-- DIST_0, 43 R660. -/
def execDist0 (cw : BitVec 4) (s : State) : Out :=
  s.offsetElement (cw.toNat + 0) (1)

/-- DIST_1, 43 R661. -/
def execDist1 (cw : BitVec 4) (s : State) : Out :=
  s.offsetElement (cw.toNat + 0) (2)

/-- DIST_2, 43 R662. -/
def execDist2 (cw : BitVec 4) (s : State) : Out :=
  s.offsetElement (cw.toNat + 0) (3)

/-- DIST_3, 43 R663. -/
def execDist3 (cw : BitVec 4) (s : State) : Out :=
  s.offsetElement (cw.toNat + 0) (4)

/-- DIST_4, 43 R664. -/
def execDist4 (cw : BitVec 4) (y : BitVec 1) (s : State) : Out :=
  s.offsetElement (cw.toNat + 1) (5 + y.toNat)

/-- DIST_5, 43 R665. -/
def execDist5 (cw : BitVec 4) (y : BitVec 1) (s : State) : Out :=
  s.offsetElement (cw.toNat + 1) (7 + y.toNat)

/-- DIST_6, 43 R666. -/
def execDist6 (cw : BitVec 4) (y : BitVec 2) (s : State) : Out :=
  s.offsetElement (cw.toNat + 2) (9 + y.toNat)

/-- DIST_7, 43 R667. -/
def execDist7 (cw : BitVec 4) (y : BitVec 2) (s : State) : Out :=
  s.offsetElement (cw.toNat + 2) (13 + y.toNat)

/-- DIST_8, 43 R668. -/
def execDist8 (cw : BitVec 4) (y : BitVec 3) (s : State) : Out :=
  s.offsetElement (cw.toNat + 3) (17 + y.toNat)

/-- DIST_9, 43 R669. -/
def execDist9 (cw : BitVec 4) (y : BitVec 3) (s : State) : Out :=
  s.offsetElement (cw.toNat + 3) (25 + y.toNat)

/-- DIST_10, 43 R670. -/
def execDist10 (cw : BitVec 4) (y : BitVec 4) (s : State) : Out :=
  s.offsetElement (cw.toNat + 4) (33 + y.toNat)

/-- DIST_11, 43 R671. -/
def execDist11 (cw : BitVec 4) (y : BitVec 4) (s : State) : Out :=
  s.offsetElement (cw.toNat + 4) (49 + y.toNat)

/-- DIST_12, 43 R672. -/
def execDist12 (cw : BitVec 4) (y : BitVec 5) (s : State) : Out :=
  s.offsetElement (cw.toNat + 5) (65 + y.toNat)

/-- DIST_13, 43 R673. -/
def execDist13 (cw : BitVec 4) (y : BitVec 5) (s : State) : Out :=
  s.offsetElement (cw.toNat + 5) (97 + y.toNat)

/-- DIST_14, 43 R674. -/
def execDist14 (cw : BitVec 4) (y : BitVec 6) (s : State) : Out :=
  s.offsetElement (cw.toNat + 6) (129 + y.toNat)

/-- DIST_15, 43 R675. -/
def execDist15 (cw : BitVec 4) (y : BitVec 6) (s : State) : Out :=
  s.offsetElement (cw.toNat + 6) (193 + y.toNat)

/-- DIST_16, 43 R676. -/
def execDist16 (cw : BitVec 4) (y : BitVec 7) (s : State) : Out :=
  s.offsetElement (cw.toNat + 7) (257 + y.toNat)

/-- DIST_17, 43 R677. -/
def execDist17 (cw : BitVec 4) (y : BitVec 7) (s : State) : Out :=
  s.offsetElement (cw.toNat + 7) (385 + y.toNat)

/-- DIST_18, 43 R678. -/
def execDist18 (cw : BitVec 4) (y : BitVec 8) (s : State) : Out :=
  s.offsetElement (cw.toNat + 8) (513 + y.toNat)

/-- DIST_19, 43 R679. -/
def execDist19 (cw : BitVec 4) (y : BitVec 8) (s : State) : Out :=
  s.offsetElement (cw.toNat + 8) (769 + y.toNat)

/-- DIST_20, 43 R680. -/
def execDist20 (cw : BitVec 4) (y : BitVec 9) (s : State) : Out :=
  s.offsetElement (cw.toNat + 9) (1025 + y.toNat)

/-- DIST_21, 43 R681. -/
def execDist21 (cw : BitVec 4) (y : BitVec 9) (s : State) : Out :=
  s.offsetElement (cw.toNat + 9) (1537 + y.toNat)

/-- DIST_22, 43 R682. -/
def execDist22 (cw : BitVec 4) (y : BitVec 10) (s : State) : Out :=
  s.offsetElement (cw.toNat + 10) (2049 + y.toNat)

/-- DIST_23, 43 R683. -/
def execDist23 (cw : BitVec 4) (y : BitVec 10) (s : State) : Out :=
  s.offsetElement (cw.toNat + 10) (3073 + y.toNat)

/-- DIST_24, 43 R684. -/
def execDist24 (cw : BitVec 4) (y : BitVec 11) (s : State) : Out :=
  s.offsetElement (cw.toNat + 11) (4097 + y.toNat)

/-- DIST_25, 43 R685. -/
def execDist25 (cw : BitVec 4) (y : BitVec 11) (s : State) : Out :=
  s.offsetElement (cw.toNat + 11) (6145 + y.toNat)

/-- DIST_26, 43 R686. -/
def execDist26 (cw : BitVec 4) (y : BitVec 12) (s : State) : Out :=
  s.offsetElement (cw.toNat + 12) (8193 + y.toNat)

/-- DIST_27, 43 R687. -/
def execDist27 (cw : BitVec 4) (y : BitVec 12) (s : State) : Out :=
  s.offsetElement (cw.toNat + 12) (12289 + y.toNat)

/-- DIST_28, 43 R688. -/
def execDist28 (cw : BitVec 4) (y : BitVec 13) (s : State) : Out :=
  s.offsetElement (cw.toNat + 13) (16385 + y.toNat)

/-- DIST_29, 43 R689. -/
def execDist29 (cw : BitVec 4) (y : BitVec 13) (s : State) : Out :=
  s.offsetElement (cw.toNat + 13) (24577 + y.toNat)

/-- DIST_30, 43 R690. -/
def execDist30 (cw : BitVec 4) (s : State) : Out :=
  s.reservedOffset Config.reservedSymbolPolicy cw.toNat

/-- DIST_31, 43 R691. -/
def execDist31 (cw : BitVec 4) (s : State) : Out :=
  s.reservedOffset Config.reservedSymbolPolicy cw.toNat

end Sys2Proof.Machine
end

