-- ==== Sys2Proof/Machine/Dispatch.lean ====
section
/-! DEFINITION. What each instruction does: one arm for each constructor of Instr. -/

namespace Sys2Proof.Machine
open Sys2Proof

def exec (i : Instr) (s : State) : Host.Outcome State Fault Refusal :=
  match i with
  | .blockStored final => Sys2Proof.Machine.execBlockStored final s
  | .blockFixed final => Sys2Proof.Machine.execBlockFixed final s
  | .blockDynamic final hlit hdist hclen => Sys2Proof.Machine.execBlockDynamic final hlit hdist hclen s
  | .blockReserved final => Sys2Proof.Machine.execBlockReserved final s
  | .pcl l => Sys2Proof.Machine.execPcl l s
  | .cl cw n => Sys2Proof.Machine.execCl cw n s
  | .clRepPrev cw x => Sys2Proof.Machine.execClRepPrev cw x s
  | .clZero cw x => Sys2Proof.Machine.execClZero cw x s
  | .clZeroLong cw x => Sys2Proof.Machine.execClZeroLong cw x s
  | .lit cw b => Sys2Proof.Machine.execLit cw b s
  | .eob cw => Sys2Proof.Machine.execEob cw s
  | .len257 cw => Sys2Proof.Machine.execLen257 cw s
  | .len258 cw => Sys2Proof.Machine.execLen258 cw s
  | .len259 cw => Sys2Proof.Machine.execLen259 cw s
  | .len260 cw => Sys2Proof.Machine.execLen260 cw s
  | .len261 cw => Sys2Proof.Machine.execLen261 cw s
  | .len262 cw => Sys2Proof.Machine.execLen262 cw s
  | .len263 cw => Sys2Proof.Machine.execLen263 cw s
  | .len264 cw => Sys2Proof.Machine.execLen264 cw s
  | .len265 cw x => Sys2Proof.Machine.execLen265 cw x s
  | .len266 cw x => Sys2Proof.Machine.execLen266 cw x s
  | .len267 cw x => Sys2Proof.Machine.execLen267 cw x s
  | .len268 cw x => Sys2Proof.Machine.execLen268 cw x s
  | .len269 cw x => Sys2Proof.Machine.execLen269 cw x s
  | .len270 cw x => Sys2Proof.Machine.execLen270 cw x s
  | .len271 cw x => Sys2Proof.Machine.execLen271 cw x s
  | .len272 cw x => Sys2Proof.Machine.execLen272 cw x s
  | .len273 cw x => Sys2Proof.Machine.execLen273 cw x s
  | .len274 cw x => Sys2Proof.Machine.execLen274 cw x s
  | .len275 cw x => Sys2Proof.Machine.execLen275 cw x s
  | .len276 cw x => Sys2Proof.Machine.execLen276 cw x s
  | .len277 cw x => Sys2Proof.Machine.execLen277 cw x s
  | .len278 cw x => Sys2Proof.Machine.execLen278 cw x s
  | .len279 cw x => Sys2Proof.Machine.execLen279 cw x s
  | .len280 cw x => Sys2Proof.Machine.execLen280 cw x s
  | .len281 cw x => Sys2Proof.Machine.execLen281 cw x s
  | .len282 cw x => Sys2Proof.Machine.execLen282 cw x s
  | .len283 cw x => Sys2Proof.Machine.execLen283 cw x s
  | .len284 cw x => Sys2Proof.Machine.execLen284 cw x s
  | .len285 cw => Sys2Proof.Machine.execLen285 cw s
  | .len286 cw => Sys2Proof.Machine.execLen286 cw s
  | .len287 cw => Sys2Proof.Machine.execLen287 cw s
  | .dist0 cw => Sys2Proof.Machine.execDist0 cw s
  | .dist1 cw => Sys2Proof.Machine.execDist1 cw s
  | .dist2 cw => Sys2Proof.Machine.execDist2 cw s
  | .dist3 cw => Sys2Proof.Machine.execDist3 cw s
  | .dist4 cw y => Sys2Proof.Machine.execDist4 cw y s
  | .dist5 cw y => Sys2Proof.Machine.execDist5 cw y s
  | .dist6 cw y => Sys2Proof.Machine.execDist6 cw y s
  | .dist7 cw y => Sys2Proof.Machine.execDist7 cw y s
  | .dist8 cw y => Sys2Proof.Machine.execDist8 cw y s
  | .dist9 cw y => Sys2Proof.Machine.execDist9 cw y s
  | .dist10 cw y => Sys2Proof.Machine.execDist10 cw y s
  | .dist11 cw y => Sys2Proof.Machine.execDist11 cw y s
  | .dist12 cw y => Sys2Proof.Machine.execDist12 cw y s
  | .dist13 cw y => Sys2Proof.Machine.execDist13 cw y s
  | .dist14 cw y => Sys2Proof.Machine.execDist14 cw y s
  | .dist15 cw y => Sys2Proof.Machine.execDist15 cw y s
  | .dist16 cw y => Sys2Proof.Machine.execDist16 cw y s
  | .dist17 cw y => Sys2Proof.Machine.execDist17 cw y s
  | .dist18 cw y => Sys2Proof.Machine.execDist18 cw y s
  | .dist19 cw y => Sys2Proof.Machine.execDist19 cw y s
  | .dist20 cw y => Sys2Proof.Machine.execDist20 cw y s
  | .dist21 cw y => Sys2Proof.Machine.execDist21 cw y s
  | .dist22 cw y => Sys2Proof.Machine.execDist22 cw y s
  | .dist23 cw y => Sys2Proof.Machine.execDist23 cw y s
  | .dist24 cw y => Sys2Proof.Machine.execDist24 cw y s
  | .dist25 cw y => Sys2Proof.Machine.execDist25 cw y s
  | .dist26 cw y => Sys2Proof.Machine.execDist26 cw y s
  | .dist27 cw y => Sys2Proof.Machine.execDist27 cw y s
  | .dist28 cw y => Sys2Proof.Machine.execDist28 cw y s
  | .dist29 cw y => Sys2Proof.Machine.execDist29 cw y s
  | .dist30 cw => Sys2Proof.Machine.execDist30 cw s
  | .dist31 cw => Sys2Proof.Machine.execDist31 cw s
  | .cmdReset flags => Sys2Proof.Machine.execCmdReset flags s
  | .cmdDecompress wantIn wantOut inBytes outN => Sys2Proof.Machine.execCmdDecompress wantIn wantOut inBytes outN s
  | .cmdReserved2 rest => Sys2Proof.Machine.execCmdReserved2 rest s
  | .cmdReserved3 rest => Sys2Proof.Machine.execCmdReserved3 rest s

end Sys2Proof.Machine
end

