-- ==== Sys2Proof/Machine/Fetch.lean ====
section
/-! DEFINITION. Fetching: which element stands at the cursor, by the phase the block is in. -/

namespace Sys2Proof.Machine
open Sys2Proof

/-- 43 R604: `lookup(table, T)`, then `k` with the entry and the state; the prefix bits of a subtable pointer are
consumed here. -/
def State.lookup (s : State) (table : List Entry) (T : Nat) (k : Entry → State → Fetched) : Fetched :=
  let e := table.getD (s.peek T) default
  if e.isPointer then
    if s.c + e.nbits ≤ 8 * s.inN then
      let s1 := s.advance e.nbits
      k (table.getD (e.subStart + s1.peek e.cwbits.toNat) default) s1
    else .raised (s.raise .overread)
  else k e s

/-- The instruction a decoder gave, in the state it was decoded in. -/
def Fetched.ofDecoded (d : Except DecodeError Instr) (s : State) : Fetched :=
  match d with
  | .ok i    => .instr i s
  | .error _ => .stuck .malformedEntry

/-- The element at the cursor: 44 R704 and 42 R500, 42 R520, 42 R522, 43 R600, 43 R611, each behind the refill that
40 R423 puts before it. -/
def fetch (s : State) : Fetched :=
  match s.phase with
  | .blockHeader => .instr (decodeBlockHeader s.refill.inBuf s.refill.c) s.refill
  | .precodeLen  => .instr (decodePcl s.refill.inBuf s.refill.c) s.refill
  | .codeLen     =>
    Fetched.ofDecoded
      (decodePresym (s.refill.precodeTable.getD (s.refill.peek Config.precodeTablebits) default) s.refill.inBuf s.refill.c)
      s.refill
  | .body        =>
    s.refill.lookup s.litlenTable s.litlenTablebits.toNat fun e s1 =>
      Fetched.ofDecoded (decodeLitlen e s1.inBuf s1.c) s1
  | .offset      =>
    s.refillForOffset.lookup s.offsetTable Config.offsetTablebits fun e s1 =>
      Fetched.ofDecoded (decodeOffset e s1.inBuf s1.c) s1

/-- The host's act of submitting a command (44 R700): the next step takes it. -/
def State.submit (s : State) (m : HostCmd) : State := { s with port := some m }

/-- The command at the port has been taken. -/
def State.takePort (s : State) : State := { s with port := none }

/-- `s` with a word of spec/opcode_table.json placed where the next step fetches: a command at the port; a block header
at the cursor of a running command; a symbol at the cursor, in the phase of its format, under a code in which it is the
single symbol, of length 1 (41 R456, case b: every entry of the table is its entry). Log entry 4. -/
def placeTableWord (s : State) (nbits w : Nat) : State :=
  let running : State := { s with busy := true, port := none, inBuf := tableBytes nbits w, c := 0, dp := Datapath.zero }
  let single := fun n => List.replicate n (tableEntry nbits w)
  match tableFormat nbits w with
  | .cmd    => s.submit (tableCommand w)
  | .blkhdr => { running with phase := .blockHeader }
  | .pcl    => { running with phase := .precodeLen }
  | .presym => { running with phase := .codeLen, precodeTable := overlay (single (2 ^ Config.precodeTablebits)) s.precodeTable }
  | .litlen => { running with phase := .body, litlenTablebits := 1, litlenTable := overlay (single 2) s.litlenTable }
  | .offset => { running with phase := .offset, offsetTable := overlay (single (2 ^ Config.offsetTablebits)) s.offsetTable }

end Sys2Proof.Machine
end

