-- ==== Sys2Proof/Machine/Step.lean ====
section
/-! DEFINITION. One step: a command at the port is taken first (44 R700, R702); else a running command decodes and
executes its next element; else the block waits. -/

namespace Sys2Proof.Machine
open Sys2Proof

/-- Log entries 1 and 3. A command word that is no row of the table (a bit of 31:4 set) is refused (44 R702). -/
def step (s : State) : Host.Outcome State Fault Refusal :=
  match s.port with
  | some m =>
    match decodeCommand m with
    | .ok i    => exec i s.takePort
    | .error _ => .next s.takePort.refuse
  | none =>
    if s.busy then
      match fetch s with
      | .instr i s1 => exec i s1
      | .raised s1  => .next s1
      | .stuck f    => .fault f
    else .next s

/-- `s` with a word of spec/opcode_table.json placed where `step` fetches its next instruction. -/
def State.withFetchWord (s : State) (nbits w : Nat) : State := placeTableWord s nbits w

end Sys2Proof.Machine
end

