-- ==== Sys2Proof/Safety.lean ====
section
/-! DEFINITION. What a safe run is, in the terms the statements use: the invariants of the state, what the host sees of a
response, and running the machine. -/

namespace Sys2Proof
open Sys2Proof.Machine

/-! ### Elements and codes as such -/

/-- How many bits of the stream an element takes when its meaning runs: its fixed bits, or the codeword bits left to
consume and its extra bits (30 R322). What a stored block takes beyond its header is not counted, and a command takes
none. -/
def Instr.streamBits (i : Instr) : Nat :=
  match i.layout with
  | .fixed bits        => if bits.length = 32 then 0 else bits.length
  | .coded _ _ cw xw _ => cw + xw

/-- 41 R467: a set of code lengths up to `L` is complete. -/
def Complete (lens : List Nat) (L : Nat) : Prop := usedSpace lens (maxLen lens L) = 2 ^ maxLen lens L

/-- The code of format `f` is an accepted complete code of its alphabet (41 R451, R467). -/
def Codes.Accepted (k : Codes) (f : Format) : Prop :=
  match f with
  | .presym => k.precode.length ≤ 19 ∧ (∀ l ∈ k.precode, l ≤ 7) ∧ Complete k.precode 7
  | .litlen => k.litlen.length ≤ 288 ∧ (∀ l ∈ k.litlen, l ≤ 15) ∧ Complete k.litlen 15
  | .offset => k.offset.length ≤ 32 ∧ (∀ l ∈ k.offset, l ≤ 15) ∧ Complete k.offset 15
  | .blkhdr | .pcl | .cmd => False

end Sys2Proof

namespace Sys2Proof.Machine
open Sys2Proof

/-- `S[C + i]`, 40 R400, R401. -/
def State.bit (s : State) (i : Nat) : Bool := streamBit s.inBuf (s.c + i)

/-! ### Invariants -/

/-- 10 R101 to R106: every array has the size the spec gives it. -/
structure State.Sized (s : State) : Prop where
  precodeLens  : s.precodeLens.length = 19
  lens         : s.lens.length = 457
  precodeTable : s.precodeTable.length = 128
  litlenTable  : s.litlenTable.length = 2342
  offsetTable  : s.offsetTable.length = 402
  sortedSyms   : s.sortedSyms.length = 288

/-- 10 R108, R115: the counts stay in range. While a dynamic header is parsed the three counts hold their values of
42 R515 to R517 and the loop variables stay inside their loops (42 R520, R522); between a length symbol and its offset
symbol there is a length of 3 to 258 (00 R8, 30 R309). -/
structure State.Ranged (s : State) : Prop where
  nlit       : s.nlit.toNat ≤ 288
  noff       : s.noff.toNat ≤ 32
  ncl        : s.ncl.toNat ≤ 19
  tablebits  : s.litlenTablebits.toNat ≤ 11
  precodeLen : s.busy → s.phase = .precodeLen →
                 257 ≤ s.nlit.toNat ∧ 1 ≤ s.noff.toNat ∧ 4 ≤ s.ncl.toNat ∧ s.index < s.ncl.toNat
  codeLen    : s.busy → s.phase = .codeLen → 257 ≤ s.nlit.toNat ∧ 1 ≤ s.noff.toNat ∧ s.index < s.total
  matchLen   : s.phase = .offset → 3 ≤ s.matchLen ∧ s.matchLen ≤ 258

/-- 10 R110: the cursor never passes the end of IN. -/
def State.CursorOk (s : State) : Prop := s.c ≤ 8 * s.inN

/-- 10 R112, R113, 43 R603, 20 R203: `out_next ≤ out_n`; OUT is in canonical form and holds exactly the bytes below
`out_next`; a response defines none past it. -/
structure State.OutOk (s : State) : Prop where
  bound   : s.outNext.toNat ≤ s.outN.toNat
  wf      : Memory.wf s.out = true
  written : ∀ a, (Memory.read s.out a).isSome = true ↔ a < s.outNext.toNat
  defined : s.outDefined.toNat ≤ s.outNext.toNat

/-- 30 R317: `in_n` is a 64-bit count, for the running command and for the one presented. -/
def State.InputOk (s : State) : Prop :=
  s.inBuf.length < 2 ^ 64 ∧ ∀ m, s.port = some m → m.inBytes.length < 2 ^ 64

/-- The tables that 42 R511 builds stand in the offset and the lit/len table (10 R107). -/
def State.FixedLoaded (s : State) : Prop :=
  buildOffsetTable fixedOffsetLens = .ok (s.offsetTable.take 256) ∧
  buildLitlenTable fixedLitlenLens = .ok (s.litlenTable.take 512) ∧
  s.litlenTablebits = 9

/-- 10 R107, 42 R518: the flag says that the fixed tables are loaded, and it is 0 while a dynamic header is parsed. -/
structure State.FlagOk (s : State) : Prop where
  loaded  : s.staticCodesLoaded = true → s.FixedLoaded
  cleared : s.busy → s.phase = .precodeLen ∨ s.phase = .codeLen → s.staticCodesLoaded = false

/-- 70 R909: the tables an element is looked up in are tables a build gave (41 R450, R451): the code-length loop has the
precode table of `precode_lens`; a body has an offset table of at most 32 and a lit/len table of at most 288 lengths of at most 15 bits, and
`litlen_tablebits` is the width the lit/len table was built with. -/
structure State.TablesBuilt (s : State) : Prop where
  precode : s.busy → s.phase = .codeLen → buildPrecodeTable s.precodeLengths = .ok s.precodeTable
  body    : s.busy → s.phase = .body ∨ s.phase = .offset →
    (∃ lens t, lens.length ≤ 32 ∧ (∀ l ∈ lens, l ≤ 15) ∧ buildOffsetTable lens = .ok t ∧ s.offsetTable.take t.length = t) ∧
    (∃ lens t, lens.length ≤ 288 ∧ (∀ l ∈ lens, l ≤ 15) ∧ buildLitlenTable lens = .ok t ∧
      s.litlenTable.take t.length = t ∧ s.litlenTablebits.toNat = litlenRootBits lens)

/-- 40 R428: the datapath registers `d` stand for the cursor `c` of the stream of IN. -/
structure Datapath.Linked (d : Datapath) (inb : List Byte) (c : Nat) : Prop where
  cursor   : c + d.bitsleft.toNat = 8 * d.inNext.toNat + 8 * d.overreadCount.toNat
  usable   : d.bitsleft.toNat ≤ 63
  loaded   : ∀ i, i < d.bitsleft.toNat → d.bitbuf.getLsbD i = streamBit inb (c + i)
  above    : ∀ i, d.bitsleft.toNat ≤ i → d.bitbuf.getLsbD i = true → streamBit inb (c + i) = true
  overread : 0 < d.overreadCount.toNat → d.inNext.toNat = inb.length
  inside   : d.inNext.toNat ≤ inb.length

/-- 40 R428, while a command runs. -/
def State.DatapathOk (s : State) : Prop := s.busy → s.dp.Linked s.inBuf s.c

/-- Everything the model keeps: each part is an invariant of every step of a state in which the parts hold. -/
structure State.Inv (s : State) : Prop where
  sized  : s.Sized
  ranged : s.Ranged
  cursor : s.CursorOk
  out    : s.OutOk
  input  : s.InputOk
  flag   : s.FlagOk
  tables : s.TablesBuilt

/-! ### Elements and codes -/

/-- The run of a code-length symbol (42 R523 to R526): the bits it takes, its repeat count, and the value it writes. -/
def codeLenRun (i : Instr) (s : State) : Option (Nat × Nat × BitVec 4) :=
  match i with
  | .cl cw n         => some (cw.toNat, 1, n)
  | .clRepPrev cw x  => some (cw.toNat + 2, 3 + x.toNat, s.lens.getD (s.index - 1) 0)
  | .clZero cw x     => some (cw.toNat + 3, 3 + x.toNat, 0)
  | .clZeroLong cw x => some (cw.toNat + 7, 11 + x.toNat, 0)
  | _                => none

/-- The phase in which the elements of a Huffman-coded format are decoded. -/
def State.InPhaseOf (s : State) (f : Format) : Prop :=
  match f with
  | .presym => s.phase = .codeLen
  | .litlen => s.phase = .body
  | .offset => s.phase = .offset
  | .blkhdr | .pcl | .cmd => False

/-- The table of format `f` is one that a build of its code gave. -/
def State.TableOf (s : State) (k : Codes) (f : Format) : Prop :=
  match f with
  | .presym => ∃ t, buildPrecodeTable k.precode = .ok t ∧ s.precodeTable.take t.length = t
  | .litlen => ∃ t, buildLitlenTable k.litlen = .ok t ∧ s.litlenTable.take t.length = t ∧
      s.litlenTablebits.toNat = litlenRootBits k.litlen
  | .offset => ∃ t, buildOffsetTable k.offset = .ok t ∧ s.offsetTable.take t.length = t
  | .blkhdr | .pcl | .cmd => False

/-- The root width of a format's table (43 R604, 42 R522). -/
def State.rootWidth (s : State) (f : Format) : Nat :=
  match f with
  | .presym => Config.precodeTablebits
  | .litlen => s.litlenTablebits.toNat
  | .offset => Config.offsetTablebits
  | .blkhdr | .pcl | .cmd => 0

/-- The refill before a format's lookup (40 R423). -/
def State.refillFor (s : State) (f : Format) : State :=
  match f with
  | .offset => s.refillForOffset
  | .presym | .litlen | .blkhdr | .pcl | .cmd => s.refill

/-! ### What the host sees -/

/-- A response as the host may rely on it (30 R319, 20 R207): a count whose valid bit is 0 is not there, and OUT is its
defined bytes. -/
structure Response where
  result    : Result
  actualIn  : Option Count
  actualOut : Option Count
  refused   : Bool
  outBytes  : List Host.Cell
  deriving DecidableEq, Repr

/-- The response registers and the defined bytes of OUT, once `busy` has fallen (70 R904). -/
def State.response (s : State) : Option Response :=
  if s.busy then none
  else some
    { result    := s.result
      actualIn  := if s.actualInValid then some s.actualIn else none
      actualOut := if s.actualOutValid then some s.actualOut else none
      refused   := s.refused
      outBytes  := s.out.filter fun p => p.1 < s.outDefined.toNat }

/-- The persistent object state (10 R101 to R108) of the two states is the same. -/
def State.SameObject (s t : State) : Prop :=
  t.precodeLens = s.precodeLens ∧ t.lens = s.lens ∧ t.precodeTable = s.precodeTable ∧ t.litlenTable = s.litlenTable ∧
  t.offsetTable = s.offsetTable ∧ t.sortedSyms = s.sortedSyms ∧ t.staticCodesLoaded = s.staticCodesLoaded ∧
  t.litlenTablebits = s.litlenTablebits

/-- The buffers and flag operands of the running command (10 R111, R112, 30 R317) are the same. -/
def State.SameOperands (s t : State) : Prop :=
  t.inBuf = s.inBuf ∧ t.outN = s.outN ∧ t.wantIn = s.wantIn ∧ t.wantOut = s.wantOut

/-- The response registers (10 R117) of the two states are the same. -/
def State.SameResponse (s t : State) : Prop :=
  t.result = s.result ∧ t.actualIn = s.actualIn ∧ t.actualOut = s.actualOut ∧ t.actualInValid = s.actualInValid ∧
  t.actualOutValid = s.actualOutValid ∧ t.refused = s.refused

/-- 44 R710: the command has been ended with an error: `result` is `r`, no count is valid, `busy` has fallen, no byte of
OUT is defined. -/
def State.EndedWith (r : Result) (t : State) : Prop :=
  t.result = r ∧ t.actualInValid = false ∧ t.actualOutValid = false ∧ t.busy = false ∧ t.outDefined = 0

/-- `n` steps. -/
def State.run (n : Nat) (s : State) : Out := core.run n s

/-- What the host sees after a run: the response where it has ended, nothing while it runs, and a stop of the model as a
stop. -/
def visible : Out → Option (Option Response)
  | .next s    => some s.response
  | .fault _   => none
  | .refused _ => none

end Sys2Proof.Machine
end

