-- ==== Sys2Proof/Certificates/Slice0/Obligations.lean ====
section
/-! DEFINITION. The statements for the provers. Each docstring says what it states and where it comes from. -/

section
open Sys2Proof Sys2Proof.Machine

/-- O1. With no command at the port and a command running, one step executes the element that the decoder of the current
phase reads at the cursor: a block header, a precode length, a precode symbol, and a lit/len or offset symbol whose
entry is direct. Around exec the step only refills the datapath. (44_decompressor.md R704; 42_block_header.md R500,
R520, R522; 43_body_decode.md R600, R611; 40_bit_reader.md R423.) -/
def Obligations.StepRunsDecodedElement : Prop :=
  ∀ s : State, s.port = none → s.busy = true →
    (s.phase = .blockHeader → step s = exec (decodeBlockHeader s.inBuf s.c) s.refill) ∧
    (s.phase = .precodeLen → step s = exec (decodePcl s.inBuf s.c) s.refill) ∧
    (∀ i, s.phase = .codeLen →
      decodePresym (s.precodeTable.getD (s.peek 7) default) s.inBuf s.c = .ok i → step s = exec i s.refill) ∧
    (∀ e i, s.phase = .body → e = s.litlenTable.getD (s.peek s.litlenTablebits.toNat) default → e.isPointer = false →
      decodeLitlen e s.inBuf s.c = .ok i → step s = exec i s.refill) ∧
    (∀ e i, s.phase = .offset → e = s.offsetTable.getD (s.peek 8) default → e.isPointer = false →
      decodeOffset e s.inBuf s.c = .ok i → step s = exec i s.refillForOffset)

/-- O2. Where the entry found first is a subtable pointer p, one step removes its prefix bits and executes the element of
the entry at p[30:16] + peek(p[11:8]); where the prefix crosses the end of IN the step raises BAD_DATA.
(43_body_decode.md R604; 40_bit_reader.md R403.) -/
def Obligations.StepRunsSubtableElement : Prop :=
  ∀ (s : State) (p e : Entry) (i : Instr), s.port = none → s.busy = true → p.isPointer = true →
    (s.phase = .body → p = s.litlenTable.getD (s.peek s.litlenTablebits.toNat) default →
      (s.c + p.nbits ≤ 8 * s.inN →
        e = s.litlenTable.getD (p.subStart + peekBits s.inBuf (s.c + p.nbits) p.cwbits.toNat) default →
        decodeLitlen e s.inBuf (s.c + p.nbits) = .ok i → step s = exec i (s.refill.advance p.nbits)) ∧
      (8 * s.inN < s.c + p.nbits → step s = .next (s.refill.raise .overread))) ∧
    (s.phase = .offset → p = s.offsetTable.getD (s.peek 8) default →
      (s.c + p.nbits ≤ 8 * s.inN →
        e = s.offsetTable.getD (p.subStart + peekBits s.inBuf (s.c + p.nbits) p.cwbits.toNat) default →
        decodeOffset e s.inBuf (s.c + p.nbits) = .ok i → step s = exec i (s.refillForOffset.advance p.nbits)) ∧
      (8 * s.inN < s.c + p.nbits → step s = .next (s.refillForOffset.raise .overread)))

/-- O3. A command at the port is decoded and executed by the very next step, busy or not, and leaves the port empty; a
word that is no row of the opcode table is refused. With no command at the port and busy = 0 a step changes nothing.
That a step takes the command first, and that an idle step is a stutter, is the model's convention (log entry 3).
(44_decompressor.md R700, R702; log entry 3.) -/
def Obligations.StepRunsCommand : Prop :=
  ∀ s : State,
    (∀ m i, s.port = some m → decodeCommand m = .ok i → step s = exec i { s with port := none }) ∧
    (∀ m e, s.port = some m → decodeCommand m = .error e → step s = .next { s with port := none, refused := true }) ∧
    (s.port = none → s.busy = false → step s = .next s)

/-- O4. Sanity: block headers of 42 R500 and R519, a precode length, precode, lit/len and offset symbols behind entries
written out from 30 R304 to R308, and command words of 30 R316 decode to their instructions. (30_encoding.md R304,
R305, R306, R308, R312, R314, R316; 41_table_builder.md R470.) -/
def Obligations.DecodedWords : Prop :=
  decodeBlockHeader [0x03, 0x00] 0 = .blockFixed true ∧
  decodeBlockHeader [0x01, 0x05, 0x00, 0xFA, 0xFF] 0 = .blockStored true ∧
  decodeBlockHeader [0x15, 0xC1, 0x37, 0x01] 0 = .blockDynamic true 2 1 14 ∧
  decodeBlockHeader [0x07, 0x00] 0 = .blockReserved true ∧
  decodePcl [0x2B] 3 = .pcl 5 ∧
  decodePresym ⟨0x00120303, 18⟩ [0xB0, 0x02] 0 = .ok (.clZeroLong 3 86) ∧
  decodeLitlen ⟨0x80410808, 65⟩ [0x73, 0x04, 0x00] 3 = .ok (.lit 8 0x41) ∧
  decodeLitlen ⟨0x0000A707, 256⟩ [0x03, 0x00] 3 = .ok (.eob 7) ∧
  decodeLitlen ⟨0x0073080C, 280⟩ [0x00, 0x05] 0 = .ok (.len280 8 5) ∧
  decodeOffset ⟨0x0101050C, 16⟩ [0x80, 0x0C] 0 = .ok (.dist16 5 100) ∧
  decodeCommand ⟨0x0000000D, [0x03, 0x00], 7⟩ = .ok (.cmdDecompress true true [0x03, 0x00] 7) ∧
  decodeCommand ⟨0x00000002, [], 0⟩ = .ok (.cmdReserved2 0) ∧
  decodeCommand ⟨0x00000011, [], 0⟩ = .error .reservedCommandBits

/-- O5. For every state and n, peek(n) is the sum over i < n of S[C+i]·2^i and is below 2^n, where S[j] is bit j mod 8 of
byte j div 8 of IN below 8·in_n and 0 from there on. With IN = 73 04 00 and C = 3, peek(8) is 0x8E. (R402; R400.) -/
def Obligations.PeekIsTheSumOfTheStreamBits : Prop :=
  (∀ (s : State) (n : Nat),
    s.peek n = ∑ i ∈ Finset.range n, (s.bit i).toNat * 2 ^ i ∧ s.peek n < 2 ^ n) ∧
  (∀ (inb : List Byte) (j : Nat),
    (j < 8 * inb.length → (streamBit inb j).toNat = ((inRead inb (j / 8)).toNat >>> (j % 8)) &&& 1) ∧
    (8 * inb.length ≤ j → streamBit inb j = false)) ∧
  peekBits [0x73, 0x04, 0x00] 3 8 = 0x8E

/-- O6. If C + n > 8·in_n, consume(n) ends the command with BAD_DATA at once, with the cursor, OUT and the object as they
were; otherwise what follows runs with C raised by n and nothing changed but the datapath registers beside it. (R403.) -/
def Obligations.ConsumeMovesTheCursorOrRaises : Prop :=
  ∀ (s : State) (n : Nat) (k : State → Out),
    (8 * s.inN < s.c + n → ∃ t, s.consume n k = .next t ∧ State.EndedWith .badData t ∧ t.c = s.c ∧ t.out = s.out ∧
      t.outNext = s.outNext ∧ s.SameObject t) ∧
    (s.c + n ≤ 8 * s.inN → s.consume n k = k { s with c := s.c + n, dp := s.dp.consume n }) ∧
    (s.CursorOk → s.consume 0 k = k { s with dp := s.dp.consume 0 })

/-- O7. After align_to_byte the cursor is the least multiple of 8 that is at least C, still within IN; a cursor that is a
multiple of 8 stays; nothing but the cursor and the datapath registers changes. (R405.) -/
def Obligations.AlignmentSkipsToTheNextByte : Prop :=
  ∀ s : State,
    s.alignToByte = { s with c := s.alignToByte.c, dp := s.alignToByte.dp } ∧
    s.alignToByte.c % 8 = 0 ∧ s.c ≤ s.alignToByte.c ∧ s.alignToByte.c < s.c + 8 ∧
    (s.c % 8 = 0 → s.alignToByte.c = s.c) ∧
    (s.CursorOk → s.alignToByte.CursorOk)

/-- O8. For every stream element, if its bits do not all stand before the end of IN, executing it ends the command with
BAD_DATA; OUT and out_next stay as they were. (60_exceptions.md R801; 40_bit_reader.md R403.) -/
def Obligations.TruncatedElementIsBadData : Prop :=
  ∀ (i : Instr) (s : State), s.CursorOk → 0 < i.streamBits → 8 * s.inN < s.c + i.streamBits →
    ∃ t, exec i s = .next t ∧ State.EndedWith .badData t ∧ t.out = s.out ∧ t.outNext = s.outNext

/-- O9. In a state that keeps the model's invariants and in which bitbuf, bitsleft, in_next and overread_count stand for C
as 40 R428 says, a step that answers a next state leaves them standing for its C. Where they stand for C, peek(n) on
the registers, bitbuf[n−1:0], is the abstract peek(n) for every n up to bitsleft; and a refill keeps the link and
leaves at least 56 usable bits, or 28 before an offset lookup, which is as many as an element's lookup and fields take
(14 for the count header behind its own refill), so no element needs a bit that was not loaded. (40_bit_reader.md
R428, R421 to R426; 40_bit_reader.md R402, R409.) -/
def Obligations.DatapathStaysLinkedToTheCursor : Prop :=
  (∀ s t : State, s.Inv → s.DatapathOk → step s = .next t → t.DatapathOk) ∧
  (∀ s : State, s.CursorOk → s.InputOk → s.dp.Linked s.inBuf s.c →
    (∀ n, n ≤ s.dp.bitsleft.toNat → s.dp.peek n = s.peek n) ∧
    (s.refill.dp.Linked s.refill.inBuf s.refill.c ∧ 56 ≤ s.refill.dp.bitsleft.toNat) ∧
    (s.refillForOffset.dp.Linked s.refillForOffset.inBuf s.refillForOffset.c ∧
      28 ≤ s.refillForOffset.dp.bitsleft.toNat))

/-- O10. In a state whose datapath registers stand for C, with C within IN, finish leaves in_next = ceil(C/8), which is
the actual_in it reports when asked for. (40_bit_reader.md R427, R408; 44_decompressor.md R706.) -/
def Obligations.RewindGivesTheInputCount : Prop :=
  ∀ s : State, s.CursorOk → s.InputOk → s.dp.Linked s.inBuf s.c →
    s.finish.dp.inNext.toNat = (s.c + 7) / 8 ∧
    (s.wantIn = true → s.finish.actualInValid = true ∧ s.finish.actualIn = s.finish.dp.inNext)

/-- O11. A build fails as overfull exactly when the codespace used by its lengths, the sum over l in 1..maxlen of
count[l]·2^(maxlen−l), exceeds 2^maxlen; each of the three builds over the state then ends the command with BAD_DATA.
(R454.) -/
def Obligations.CodespaceDecidesOverfull : Prop :=
  (∀ (lens : List Nat) (mk : Nat → Nat → Entry) (T L enough : Nat),
    buildTable lens mk T L enough = .error .overfull ↔
      2 ^ maxLen lens L < ∑ l ∈ Finset.Icc 1 (maxLen lens L), lens.count l * 2 ^ (maxLen lens L - l)) ∧
  (∀ (s : State) (k : State → Out),
    (2 ^ maxLen s.precodeLengths 7 < usedSpace s.precodeLengths (maxLen s.precodeLengths 7) →
      ∃ t, s.buildPrecode k = .next t ∧ State.EndedWith .badData t) ∧
    (2 ^ maxLen s.offsetLengths 15 < usedSpace s.offsetLengths (maxLen s.offsetLengths 15) →
      ∃ t, s.buildOffset k = .next t ∧ State.EndedWith .badData t) ∧
    (2 ^ maxLen s.litlenLengths 15 < usedSpace s.litlenLengths (maxLen s.litlenLengths 15) →
      ∃ t, s.buildLitlen k = .next t ∧ State.EndedWith .badData t))

/-- O12. For lengths up to L whose codespace is under 2^maxlen: with no used symbol every entry of the table is symbol 0
with length 1; with exactly one used symbol, of length 1, every entry is that symbol with length 1; any other set
fails as incomplete, and a build over the state then ends the command with BAD_DATA. (R456.) -/
def Obligations.IncompleteCodes : Prop :=
  (∀ (lens : List Nat) (mk : Nat → Nat → Entry) (T L enough : Nat), 1 ≤ L → (∀ l ∈ lens, l ≤ L) →
    usedSpace lens (maxLen lens L) < 2 ^ maxLen lens L →
    ((∀ l ∈ lens, l = 0) → buildTable lens mk T L enough = .ok (List.replicate (2 ^ T) (mk 0 1))) ∧
    (∀ sym, lens[sym]? = some 1 → (∀ j, j ≠ sym → lens.getD j 0 = 0) →
      buildTable lens mk T L enough = .ok (List.replicate (2 ^ T) (mk sym 1))) ∧
    ((∃ l ∈ lens, l ≠ 0) → (¬ ∃ sym, lens[sym]? = some 1 ∧ ∀ j, j ≠ sym → lens.getD j 0 = 0) →
      buildTable lens mk T L enough = .error .incomplete)) ∧
  (∀ (s : State) (k : State → Out),
    (buildPrecodeTable s.precodeLengths = .error .incomplete →
      ∃ t, s.buildPrecode k = .next t ∧ State.EndedWith .badData t) ∧
    (buildOffsetTable s.offsetLengths = .error .incomplete →
      ∃ t, s.buildOffset k = .next t ∧ State.EndedWith .badData t) ∧
    (buildLitlenTable s.litlenLengths = .error .incomplete →
      ∃ t, s.buildLitlen k = .next t ∧ State.EndedWith .badData t))

/-- O13. For lengths up to L, maxlen is the longest used one, or 1 if none is used. Both a lit/len build that succeeds and
one that fails write litlen_tablebits with min(11, maxlen): 9 for the fixed code, 2 for lengths 1 and 2, 1 for the
empty code. The build of the state itself does so too: one that fails ends the command in a state with that width, and
one that succeeds goes on from one. (R452.) -/
def Obligations.LongestLengthAndRootWidth : Prop :=
  (∀ (lens : List Nat) (L : Nat), 1 ≤ L →
    1 ≤ maxLen lens L ∧ maxLen lens L ≤ L ∧ (∀ l, maxLen lens L < l → l ≤ L → l ∉ lens) ∧
    (maxLen lens L ∈ lens ∨ maxLen lens L = 1)) ∧
  (∀ lens : List Nat, litlenRootBits lens = min 11 (maxLen lens 15)) ∧
  (∀ (s : State) (t : List Entry) (e : Cause),
    (s.withLitlen t).litlenTablebits.toNat = litlenRootBits s.litlenLengths ∧
    ∃ u, s.failLitlen e = .next u ∧ u.litlenTablebits.toNat = litlenRootBits s.litlenLengths) ∧
  (∀ (s : State) (k : State → Out),
    (buildLitlenTable s.litlenLengths = .error .overfull ∨ buildLitlenTable s.litlenLengths = .error .incomplete →
      ∃ u, s.buildLitlen k = .next u ∧ State.EndedWith .badData u ∧
        u.litlenTablebits.toNat = min 11 (maxLen s.litlenLengths 15)) ∧
    (∀ t, buildLitlenTable s.litlenLengths = .ok t →
      ∃ u, s.buildLitlen k = k u ∧ u.litlenTablebits.toNat = min 11 (maxLen s.litlenLengths 15))) ∧
  litlenRootBits fixedLitlenLens = 9 ∧ litlenRootBits [1, 2, 2] = 2 ∧ litlenRootBits [0, 0, 0] = 1

/-- O14. sortSyms lists exactly the symbols of a length in 1..L, each with its length, strictly rising by (length,
symbol); sorted_syms then begins with them. Lengths [2,1,3,3] sort to [1,0,2,3]. (R455.) -/
def Obligations.SortedSymbols : Prop :=
  (∀ (lens : List Nat) (L : Nat),
    (sortSyms lens L).Pairwise (fun p q => p.2 < q.2 ∨ p.2 = q.2 ∧ p.1 < q.1) ∧
    (∀ sym l, (sym, l) ∈ sortSyms lens L ↔ lens[sym]? = some l ∧ 1 ≤ l ∧ l ≤ L) ∧
    (∀ (old : List (BitVec 9)) (k : Nat) (p : Nat × Nat), (sortSyms lens L)[k]? = some p →
      (installSorted lens L old)[k]? = some (BitVec.ofNat 9 p.1))) ∧
  (sortSyms [2, 1, 3, 3] 7).map Prod.fst = [1, 0, 2, 3]

/-- O15. For a codeword x of l bits that is not the last, advance(2^l) takes the integer whose low bits are x reversed to
the one for x + 1. Size 8 and 0b011 give 0b111. (R459.) -/
def Obligations.AdvanceStepsTheReversedCodeword : Prop :=
  (∀ l x : Nat, x + 1 < 2 ^ l →
    advanceCode (bitsValue (codewordBits l x)) (2 ^ l) = bitsValue (codewordBits l (x + 1))) ∧
  advanceCode 3 8 = 7

/-- O16. For at most 19 lengths of at most 7, the precode build never needs more than the 128 entries of its table, and a
table it gives has exactly 128 entries, none a subtable pointer. (42_block_header.md R521; 41_table_builder.md R451,
R465.) -/
def Obligations.PrecodeNeverNeedsSubtables : Prop :=
  ∀ lens : List Nat, lens.length ≤ 19 → (∀ l ∈ lens, l ≤ 7) →
    buildPrecodeTable lens ≠ .error .overflow ∧
    ∀ t, buildPrecodeTable lens = .ok t → t.length = 128 ∧ ∀ e ∈ t, e.isPointer = false

/-- O17. The tables of 41 R470: the precode lengths [2,1,3,3], the fixed lit/len code, the fixed offset code, the offset
code with lengths 1, 2, …, 15, 15, and the lit/len code with symbols 0 and 256 of length 1 have the entries the spec
lists. (R470.) -/
def Obligations.WorkedBuilds : Prop :=
  (∃ t, buildPrecodeTable [2, 1, 3, 3] = .ok t ∧ t.length = 128 ∧
    t.map Entry.word = (List.replicate 16 [0x00010101, 0x00000202, 0x00010101, 0x00020303,
      0x00010101, 0x00000202, 0x00010101, 0x00030303]).flatten) ∧
  (∃ t, buildLitlenTable fixedLitlenLens = .ok t ∧ litlenRootBits fixedLitlenLens = 9 ∧ t.length = 512 ∧
    ([0, 1, 2, 3, 12, 19, 142, 255, 384, 511].map fun j => (t.getD j default).word) =
      [0x0000A707, 0x80500808, 0x80100808, 0x0073080C, 0x80000808, 0x80900909, 0x80410808, 0x80FE0909, 0x0000A707,
        0x80FF0909]) ∧
  (∃ t, buildOffsetTable fixedOffsetLens = .ok t ∧ t.length = 256 ∧
    ([0, 1, 16, 31, 255].map fun j => (t.getD j default).word) =
      [0x00010505, 0x0101050C, 0x00020505, 0x00008505, 0x00008505]) ∧
  (∃ t, buildOffsetTable [1, 2, 3, 4, 5, 6, 7, 8, 9, 10, 11, 12, 13, 14, 15, 15] = .ok t ∧ t.length = 384 ∧
    ([0, 0x7F, 0xFF, 256, 257, 259, 319, 383].map fun j => (t.getD j default).word) =
      [0x00010101, 0x000D080A, 0x0100C708, 0x00110104, 0x00190205, 0x00210307, 0x0081070D, 0x00C1070D]) ∧
  (∃ t, buildLitlenTable (1 :: List.replicate 255 0 ++ [1]) = .ok t ∧ t.map Entry.word = [0x80000101, 0x0000A101])

/-- O18. For a complete code of lengths up to L, the lookup of 43 R604 in the table that the builder gives, at any root
width T from 1 to 11, returns the entry of the symbol whose codeword, MSB first, stands at the cursor: directly where
its length is at most T, else after the T prefix bits are removed, with the remaining length in the entry. Every
stream begins with the codeword of exactly one used symbol. (41_table_builder.md R466, R468, R458 to R464;
43_body_decode.md R604.) -/
def Obligations.BuiltTableDecodes : Prop :=
  ∀ (lens : List Nat) (mk : Nat → Nat → Entry) (T L enough : Nat) (t : List Entry),
    1 ≤ T → T ≤ 11 → 1 ≤ L → L ≤ 15 → enough ≤ 2 ^ 15 → (∀ l ∈ lens, l ≤ L) → Complete lens L →
    (∀ sym n, n ≤ 15 → (mk sym n).isPointer = false) → buildTable lens mk T L enough = .ok t →
    ∀ (s : State) (table : List Entry) (k : Entry → State → Fetched), table.take t.length = t →
      (∀ sym l, lens[sym]? = some l → 1 ≤ l → StreamHolds s.inBuf s.c (symbolBits lens sym) → s.c + l ≤ 8 * s.inN →
        s.lookup table T k = if l ≤ T then k (mk sym l) s else k (mk sym (l - T)) (s.advance T)) ∧
      (∃! sym, 1 ≤ lens.getD sym 0 ∧ StreamHolds s.inBuf s.c (symbolBits lens sym))

/-- O19. The canonical codewords of the fixed lengths: 0x30 + s on 8 bits for s ≤ 143, 0x190 + (s − 144) on 9 bits to 255,
s − 256 on 7 bits to 279, 0xC0 + (s − 280) on 8 bits to 287; offset symbols s on 5 bits. (R320.) -/
def Obligations.FixedCodewords : Prop :=
  fixedLitlenLens.length = 288 ∧ fixedOffsetLens.length = 32 ∧
  (∀ s, s < 288 → (fixedLitlenLens.getD s 0, canonCode fixedLitlenLens s) =
    if s < 144 then (8, 0x30 + s) else if s < 256 then (9, 0x190 + (s - 144))
    else if s < 280 then (7, s - 256) else (8, 0xC0 + (s - 280))) ∧
  (∀ s, s < 32 → (fixedOffsetLens.getD s 0, canonCode fixedOffsetLens s) = (5, s))

/-- O20. If the encoded bits of a block header (with the count header of a dynamic block) or of a precode length stand at
the cursor, the decoder of that phase reads that instruction, with every operand; a command instruction is the one
decoded from the command it is submitted as. (30_encoding.md R301, R312, R314, R316, R317.) -/
def Obligations.FixedFormatsRoundTrip : Prop :=
  (∀ (k : Codes) (inb : List Byte) (c : Nat) (i : Instr),
    (∃ final, i = .blockStored final ∨ i = .blockFixed final ∨ i = .blockReserved final ∨
      ∃ a b d, i = .blockDynamic final a b d) →
    StreamHolds inb c (encode k i) → decodeBlockHeader inb c = i) ∧
  (∀ (k : Codes) (inb : List Byte) (c : Nat) (l : BitVec 3),
    StreamHolds inb c (encode k (.pcl l)) → decodePcl inb c = .pcl l) ∧
  (∀ (i : Instr) (m : HostCmd), commandOf i = some m → decodeCommand m = .ok i)

/-- O21. With the fixed tables loaded, for every lit/len and offset element with every value of its operands: if its
encoding in the fixed code stands at the cursor, one step executes that element, in the state after the refill.
(30_encoding.md R301, R302, R309, R310, R320, R323; 43_body_decode.md R604 to R606, R611.) -/
def Obligations.FixedCodeRoundTrip : Prop :=
  ∀ (s : State) (i : Instr) (f : Format) (sym cw xw x : Nat), s.port = none → s.busy = true → s.FixedLoaded →
    i.layout = .coded f sym cw xw x → f ≠ .presym → s.InPhaseOf f → cw = (fixedCodes.lens f).getD sym 0 →
    StreamHolds s.inBuf s.c (encode fixedCodes i) → step s = exec i (s.refillFor f)

/-- O22. For every precode, lit/len and offset element with every value of its operands, under any complete code of its
alphabet whose built table is in force: if its encoding stands at the cursor, its codeword inside IN, one step
executes that element. Where the codeword is longer than the root width T, the step has removed the T prefix bits and
the element carries the rest. (41_table_builder.md R466, R468; 30_encoding.md R301, R302, R309, R310, R315, R322,
R323; 43_body_decode.md R604 to R606.) -/
def Obligations.EncodedElementRoundTrip : Prop :=
  ∀ (s : State) (k : Codes) (i : Instr) (f : Format) (sym cw xw x l : Nat), s.port = none → s.busy = true →
    i.layout = .coded f sym cw xw x → s.InPhaseOf f → k.Accepted f → s.TableOf k f →
    (k.lens f)[sym]? = some l → 1 ≤ l → cw = (if l ≤ s.rootWidth f then l else l - s.rootWidth f) →
    StreamHolds s.inBuf s.c (encode k i) → s.c + l ≤ 8 * s.inN →
    step s = exec i (if l ≤ s.rootWidth f then s.refillFor f else (s.refillFor f).advance (s.rootWidth f))

/-- O23. For a length of 3 to 258 and a distance of 1 to 32768 the pseudo-instruction expands to a length element of
symbol 257 to 285 and an offset element of symbol 0 to 29 whose values, base plus extra, are that length and that
distance; length 258 uses symbol 285. (R324.) -/
def Obligations.MatchExpansion : Prop :=
  (∀ (k : Codes) (len dist : Nat), 3 ≤ len → len ≤ 258 → 1 ≤ dist → dist ≤ 32768 →
    ∃ i j s cs xs x d cd xd y, matchInstrs k len dist = some (i, j) ∧
      i.layout = .coded .litlen s cs xs x ∧ 257 ≤ s ∧ s ≤ 285 ∧ x < 2 ^ lenExtra s ∧ lenBase s + x = len ∧
      j.layout = .coded .offset d cd xd y ∧ d ≤ 29 ∧ y < 2 ^ offExtra d ∧ offBase d + y = dist ∧
      (len = 258 → s = 285)) ∧
  (∀ (k : Codes) (len dist : Nat), ¬ (3 ≤ len ∧ len ≤ 258 ∧ 1 ≤ dist ∧ dist ≤ 32768) → matchInstrs k len dist = none)

/-- O24. With p = ceil((C+3)/8), LEN and NLEN little-endian at IN[p..p+3], NLEN the complement of LEN, and LEN bytes left
in IN and room for them in OUT: BLOCK_STORED completes, with final set, C = 8·(p+4+LEN), data byte k at
OUT[out_next+k], every other byte of OUT as before, out_next raised by LEN, and everything else (lens, the tables,
litlen_tablebits, the flag) untouched; then the command finishes if the block is final, else the next block header
follows. (R514; R505; R513.) -/
def Obligations.StoredBlockCopies : Prop :=
  ∀ (s : State) (final : Bool) (p len nlen : Nat), p = (s.c + 3 + 7) / 8 →
    len = (inRead s.inBuf p).toNat + 256 * (inRead s.inBuf (p + 1)).toNat →
    nlen = (inRead s.inBuf (p + 2)).toNat + 256 * (inRead s.inBuf (p + 3)).toNat →
    p + 4 ≤ s.inN → len + nlen = 65535 → p + 4 + len ≤ s.inN → len ≤ s.outN.toNat - s.outNext.toNat →
    ∃ (o : Memory) (d : Datapath) (u : State),
      u = { s with
            final := final, c := 8 * (p + 4 + len), dp := d, out := o, outNext := s.outNext + BitVec.ofNat 64 len } ∧
      exec (.blockStored final) s = .next (if final then u.finish else { u with phase := .blockHeader }) ∧
      (∀ k, k < len → Memory.read o (s.outNext.toNat + k) = some (inRead s.inBuf (p + 4 + k))) ∧
      (∀ a, a < s.outNext.toNat ∨ s.outNext.toNat + len ≤ a → Memory.read o a = Memory.read s.out a)

/-- O25. With the 3 header bits present: fewer than 4 bytes after alignment give BAD_DATA; else LEN not the complement of
NLEN gives BAD_DATA; else fewer than LEN bytes left give BAD_DATA; else no room for LEN bytes gives
INSUFFICIENT_SPACE. No byte of OUT is written, and the object is untouched. (R507; R508; R509.) -/
def Obligations.StoredBlockChecks : Prop :=
  ∀ (s : State) (final : Bool) (p len nlen : Nat), s.c + 3 ≤ 8 * s.inN → p = (s.c + 3 + 7) / 8 →
    len = (inRead s.inBuf p).toNat + 256 * (inRead s.inBuf (p + 1)).toNat →
    nlen = (inRead s.inBuf (p + 2)).toNat + 256 * (inRead s.inBuf (p + 3)).toNat →
    (s.inN < p + 4 → ∃ t, exec (.blockStored final) s = .next t ∧ State.EndedWith .badData t ∧ t.out = s.out ∧
      t.outNext = s.outNext ∧ s.SameObject t) ∧
    (p + 4 ≤ s.inN → len + nlen ≠ 65535 → ∃ t, exec (.blockStored final) s = .next t ∧ State.EndedWith .badData t ∧
      t.out = s.out ∧ t.outNext = s.outNext ∧ s.SameObject t) ∧
    (p + 4 ≤ s.inN → len + nlen = 65535 → s.inN < p + 4 + len → ∃ t, exec (.blockStored final) s = .next t ∧
      State.EndedWith .badData t ∧ t.out = s.out ∧ t.outNext = s.outNext ∧ s.SameObject t) ∧
    (len + nlen = 65535 → p + 4 + len ≤ s.inN → s.outN.toNat - s.outNext.toNat < len →
      ∃ t, exec (.blockStored final) s = .next t ∧ State.EndedWith .insufficientSpace t ∧ t.out = s.out ∧
        t.outNext = s.outNext ∧ s.SameObject t)

/-- O26. With its 3 bits present BLOCK_FIXED completes. If static_codes_loaded is 1 only final, C and the phase change. If
it is 0: lens[0..319] take the fixed lengths, nlit = 288, noff = 32, the first 256 entries of the offset table and the
first 512 of the lit/len table are the fixed tables, litlen_tablebits = 9 and the flag is 1; the rest of lens and of
the tables stays. (R510; R511.) -/
def Obligations.FixedBlockLoadsOnce : Prop :=
  ∀ (s : State) (final : Bool), s.c + 3 ≤ 8 * s.inN →
    (s.staticCodesLoaded = true →
      exec (.blockFixed final) s =
        .next { s with final := final, c := s.c + 3, dp := s.dp.consume 3, phase := .body }) ∧
    (s.staticCodesLoaded = false →
      ∃ t, exec (.blockFixed final) s = .next t ∧
        t = { s with
              final := final, c := s.c + 3, dp := s.dp.consume 3, lens := t.lens, nlit := 288, noff := 32,
              offsetTable := t.offsetTable, litlenTable := t.litlenTable, litlenTablebits := 9,
              sortedSyms := t.sortedSyms, staticCodesLoaded := true, phase := .body } ∧
        t.FixedLoaded ∧
        t.lens.take 320 =
          List.replicate 144 8 ++ List.replicate 112 9 ++ List.replicate 24 7 ++ List.replicate 8 8 ++
            List.replicate 32 5 ∧
        t.lens.drop 320 = s.lens.drop 320 ∧ t.offsetTable.drop 256 = s.offsetTable.drop 256 ∧
        t.litlenTable.drop 512 = s.litlenTable.drop 512)

/-- O27. With its 17 bits present BLOCK_DYNAMIC completes: final is set, C rises by 17, nlit = HLIT + 257, noff = HDIST +
1, ncl = HCLEN + 4, static_codes_loaded = 0, and the precode lengths follow from index 0; nothing else changes but the
datapath registers. If the count header is cut short the command ends with BAD_DATA and the flag keeps its value.
(R515; R516; R517; R518.) -/
def Obligations.DynamicHeaderCounts : Prop :=
  ∀ (s : State) (final : Bool) (hlit hdist : BitVec 5) (hclen : BitVec 4),
    (s.c + 17 ≤ 8 * s.inN →
      ∃ d : Datapath, exec (.blockDynamic final hlit hdist hclen) s =
        .next { s with
          final := final, c := s.c + 17, dp := d, nlit := BitVec.ofNat 9 (hlit.toNat + 257),
          noff := BitVec.ofNat 6 (hdist.toNat + 1), ncl := BitVec.ofNat 5 (hclen.toNat + 4),
          staticCodesLoaded := false, phase := .precodeLen, index := 0 }) ∧
    (8 * s.inN < s.c + 17 →
      ∃ t, exec (.blockDynamic final hlit hdist hclen) s = .next t ∧ State.EndedWith .badData t ∧ s.SameObject t)

/-- O28. With its 3 bits present BLOCK_RESERVED ends the command with BAD_DATA, with C raised by 3 and OUT, out_next and
the object as they were, whatever BFINAL is. (R503.) -/
def Obligations.ReservedBlockIsBadData : Prop :=
  ∀ (s : State) (final : Bool), s.c + 3 ≤ 8 * s.inN →
    ∃ t, exec (.blockReserved final) s = .next t ∧ State.EndedWith .badData t ∧ t.c = s.c + 3 ∧ t.out = s.out ∧
      t.outNext = s.outNext ∧ s.SameObject t

/-- O29. With its 3 bits present, a PCL at index i with i + 1 < ncl completes: precode_lens[PERM[i]] takes its value, C
rises by 3, and the next PCL is number i + 1; nothing else changes. (42_block_header.md R520.) -/
def Obligations.PrecodeLengthWritten : Prop :=
  ∀ (s : State) (l : BitVec 3), s.c + 3 ≤ 8 * s.inN → s.index + 1 < s.ncl.toNat →
    exec (.pcl l) s =
      .next { s with
        c := s.c + 3, dp := s.dp.consume 3, precodeLens := s.precodeLens.set (permAt s.index) l,
        index := s.index + 1 }

/-- O30. With its 3 bits present, the last PCL (index i = ncl − 1) writes precode_lens[PERM[i]] and 0 at PERM[i+1..18],
keeping those already read; then the precode table is built from them. If the build succeeds the code-length loop
begins at index 0 with that table; if it fails the command ends with BAD_DATA and the lengths written.
(42_block_header.md R520, R521; 41_table_builder.md R450.) -/
def Obligations.LastPrecodeLengthBuilds : Prop :=
  ∀ (s : State) (l : BitVec 3), s.precodeLens.length = 19 → s.c + 3 ≤ 8 * s.inN → 4 ≤ s.ncl.toNat →
    s.ncl.toNat ≤ 19 → s.index + 1 = s.ncl.toNat →
    ∃ pl : List (BitVec 3), pl.length = 19 ∧
      (∀ j, j < 19 → pl.getD (permAt j) 0 =
        if j < s.index then s.precodeLens.getD (permAt j) 0 else if j = s.index then l else 0) ∧
      (∀ t, buildPrecodeTable (pl.map BitVec.toNat) = .ok t →
        exec (.pcl l) s =
          .next { s with
            c := s.c + 3, dp := s.dp.consume 3, precodeLens := pl, precodeTable := overlay t s.precodeTable,
            sortedSyms := installSorted (pl.map BitVec.toNat) 7 s.sortedSyms, phase := .codeLen, index := 0 }) ∧
      (buildPrecodeTable (pl.map BitVec.toNat) = .error .overfull ∨
        buildPrecodeTable (pl.map BitVec.toNat) = .error .incomplete →
        ∃ t, exec (.pcl l) s = .next t ∧ State.EndedWith .badData t ∧ t.precodeLens = pl)

/-- O31. A code-length symbol whose bits are present and whose run of r copies of v ends before total completes:
lens[i..i+r−1] take v and every other length stays, i rises by r, C by its bits; nothing else changes. CL n has r = 1
and v = n; CL_REP_PREV r = 3 + x and v = lens[i−1], for i > 0; CL_ZERO r = 3 + x and v = 0; CL_ZERO_LONG r = 11 + x
and v = 0. (42_block_header.md R523, R524, R525, R526.) -/
def Obligations.CodeLengthSymbolsWriteRuns : Prop :=
  ∀ (i : Instr) (s : State) (bits r : Nat) (v : BitVec 4), codeLenRun i s = some (bits, r, v) →
    (∀ cw x, i = .clRepPrev cw x → s.index ≠ 0) → s.lens.length = 457 → s.total ≤ 320 →
    s.c + bits ≤ 8 * s.inN → s.index + r < s.total →
    ∃ ls : List (BitVec 4), ls.length = 457 ∧
      exec i s = .next { s with c := s.c + bits, dp := s.dp.consume bits, lens := ls, index := s.index + r } ∧
      ∀ j, ls.getD j 0 = if s.index ≤ j ∧ j < s.index + r then v else s.lens.getD j 0

/-- O32. A code-length symbol whose bits are present and whose run ends exactly at total completes if both builds succeed:
lens hold the run, the offset table is the build of lens[nlit..total−1], the lit/len table and litlen_tablebits that
of lens[0..nlit−1], and the body follows. If the offset build fails the command ends with BAD_DATA and the lit/len
table is not built; if the lit/len build fails the command ends with BAD_DATA. (R529.) -/
def Obligations.LastCodeLengthBuilds : Prop :=
  ∀ (i : Instr) (s : State) (bits r : Nat) (v : BitVec 4) (ls : List (BitVec 4)) (litL offL : List Nat),
    codeLenRun i s = some (bits, r, v) → (∀ cw x, i = .clRepPrev cw x → s.index ≠ 0) →
    s.c + bits ≤ 8 * s.inN → s.index + r = s.total →
    ls = setRun v r s.index s.lens → litL = (ls.take s.nlit.toNat).map BitVec.toNat →
    offL = ((ls.drop s.nlit.toNat).take s.noff.toNat).map BitVec.toNat →
    (∀ tOff tLit, buildOffsetTable offL = .ok tOff → buildLitlenTable litL = .ok tLit →
      exec i s =
        .next { s with
          c := s.c + bits, dp := s.dp.consume bits, lens := ls, index := s.index + r,
          offsetTable := overlay tOff s.offsetTable, litlenTable := overlay tLit s.litlenTable,
          litlenTablebits := BitVec.ofNat 4 (litlenRootBits litL),
          sortedSyms := installSorted litL 15 (installSorted offL 15 s.sortedSyms), phase := .body }) ∧
    (buildOffsetTable offL = .error .overfull ∨ buildOffsetTable offL = .error .incomplete →
      ∃ t, exec i s = .next t ∧ State.EndedWith .badData t ∧ t.litlenTable = s.litlenTable ∧
        t.litlenTablebits = s.litlenTablebits) ∧
    (∀ tOff, buildOffsetTable offL = .ok tOff →
      buildLitlenTable litL = .error .overfull ∨ buildLitlenTable litL = .error .incomplete →
      ∃ t, exec i s = .next t ∧ State.EndedWith .badData t ∧ t.offsetTable = overlay tOff s.offsetTable)

/-- O33. A code-length symbol whose bits are present and whose run ends past total ends the command with BAD_DATA; no
table is built. (R527.) -/
def Obligations.LengthOverrunIsBadData : Prop :=
  ∀ (i : Instr) (s : State) (bits r : Nat) (v : BitVec 4), codeLenRun i s = some (bits, r, v) →
    s.c + bits ≤ 8 * s.inN → s.total < s.index + r →
    ∃ t, exec i s = .next t ∧ State.EndedWith .badData t ∧ t.offsetTable = s.offsetTable ∧
      t.litlenTable = s.litlenTable ∧ t.litlenTablebits = s.litlenTablebits

/-- O34. At i = 0, CL_REP_PREV with its codeword present ends the command with BAD_DATA, with C raised by the codeword
only and lens as they were, whether or not the extra bits are present. (42_block_header.md R524; 60_exceptions.md
R804.) -/
def Obligations.RepeatWithNoPreviousIsBadData : Prop :=
  ∀ (s : State) (cw : BitVec 4) (x : BitVec 2), s.index = 0 → s.c + cw.toNat ≤ 8 * s.inN →
    ∃ t, exec (.clRepPrev cw x) s = .next t ∧ State.EndedWith .badData t ∧ t.c = s.c + cw.toNat ∧ t.lens = s.lens

/-- O35. LIT with its codeword present and room in OUT completes: C rises by the codeword, OUT[out_next] is the byte,
every other byte of OUT reads as before, out_next rises by 1, and nothing else changes. With OUT full it ends the
command with INSUFFICIENT_SPACE after the consume; with its codeword cut short, with BAD_DATA. (R601.) -/
def Obligations.LiteralWritesOneByte : Prop :=
  ∀ (s : State) (cw : BitVec 4) (b : Byte),
    (s.c + cw.toNat ≤ 8 * s.inN → s.outNext ≠ s.outN →
      ∃ o : Memory, exec (.lit cw b) s =
          .next { s with c := s.c + cw.toNat, dp := s.dp.consume cw.toNat, out := o, outNext := s.outNext + 1 } ∧
        ∀ a, Memory.read o a = if a = s.outNext.toNat then some b else Memory.read s.out a) ∧
    (s.c + cw.toNat ≤ 8 * s.inN → s.outNext = s.outN →
      ∃ t, exec (.lit cw b) s = .next t ∧ State.EndedWith .insufficientSpace t ∧ t.c = s.c + cw.toNat ∧
        t.out = s.out ∧ t.outNext = s.outNext ∧ s.SameObject t) ∧
    (8 * s.inN < s.c + cw.toNat →
      ∃ t, exec (.lit cw b) s = .next t ∧ State.EndedWith .badData t ∧ t.out = s.out ∧ t.outNext = s.outNext)

/-- O36. EOB with its codeword present completes: after a non-final block the next block header follows and nothing but C,
its registers and the phase changes; after a final block the command finishes. With its codeword cut short it ends the
command with BAD_DATA. (R602; R704.) -/
def Obligations.EndOfBlock : Prop :=
  ∀ (s : State) (cw : BitVec 4),
    (s.c + cw.toNat ≤ 8 * s.inN → s.final = false →
      exec (.eob cw) s =
        .next { s with c := s.c + cw.toNat, dp := s.dp.consume cw.toNat, phase := .blockHeader }) ∧
    (s.c + cw.toNat ≤ 8 * s.inN → s.final = true →
      exec (.eob cw) s = .next (State.finish { s with c := s.c + cw.toNat, dp := s.dp.consume cw.toNat })) ∧
    (8 * s.inN < s.c + cw.toNat → ∃ t, exec (.eob cw) s = .next t ∧ State.EndedWith .badData t)

/-- O37. The length table is that of 30 R309. Each of LEN_257 to LEN_285 has LEN_EXTRA(s) extra bits; with all its bits
present it completes: C rises by the codeword bits left and the extra bits, the length of the match is LEN_BASE(s) +
x, the offset symbol follows, and nothing else changes. (R309.) -/
def Obligations.LengthSymbols : Prop :=
  ((List.range 29).map fun k => (lenBase (257 + k), lenExtra (257 + k))) =
    [(3, 0), (4, 0), (5, 0), (6, 0), (7, 0), (8, 0), (9, 0), (10, 0), (11, 1), (13, 1), (15, 1), (17, 1), (19, 2),
      (23, 2), (27, 2), (31, 2), (35, 3), (43, 3), (51, 3), (59, 3), (67, 4), (83, 4), (99, 4), (115, 4), (131, 5),
      (163, 5), (195, 5), (227, 5), (258, 0)] ∧
  ∀ (i : Instr) (s : State) (sym cw xw x : Nat), i.layout = .coded .litlen sym cw xw x → 257 ≤ sym → sym ≤ 285 →
    xw = lenExtra sym ∧ x < 2 ^ xw ∧
    (s.c + (cw + xw) ≤ 8 * s.inN →
      exec i s =
        .next { s with
          c := s.c + (cw + xw), dp := s.dp.consume (cw + xw), matchLen := lenBase sym + x, phase := .offset })

/-- O38. The offset table is that of 30 R310. Each of DIST_0 to DIST_29 has OFF_EXTRA(d) extra bits. With its bits
present, its offset o = OFF_BASE(d) + y at most out_next and room for the match, it completes: byte k of the match is
OUT[out_next − o + k mod o], every other byte of OUT reads as before, out_next rises by the length, the next lit/len
symbol follows, and nothing else changes. (R613; R310.) -/
def Obligations.OffsetSymbolsCopy : Prop :=
  ((List.range 30).map fun d => (offBase d, offExtra d)) =
    [(1, 0), (2, 0), (3, 0), (4, 0), (5, 1), (7, 1), (9, 2), (13, 2), (17, 3), (25, 3), (33, 4), (49, 4), (65, 5),
      (97, 5), (129, 6), (193, 6), (257, 7), (385, 7), (513, 8), (769, 8), (1025, 9), (1537, 9), (2049, 10), (3073, 10),
      (4097, 11), (6145, 11), (8193, 12), (12289, 12), (16385, 13), (24577, 13)] ∧
  ∀ (i : Instr) (s : State) (sym cw xw y off : Nat), i.layout = .coded .offset sym cw xw y → sym ≤ 29 →
    off = offBase sym + y →
    xw = offExtra sym ∧ y < 2 ^ xw ∧
    (s.OutOk → s.c + (cw + xw) ≤ 8 * s.inN → off ≤ s.outNext.toNat → s.matchLen ≤ s.outN.toNat - s.outNext.toNat →
      ∃ o : Memory, exec i s =
          .next { s with
            c := s.c + (cw + xw), dp := s.dp.consume (cw + xw), out := o,
            outNext := s.outNext + BitVec.ofNat 64 s.matchLen, phase := .body } ∧
        (∀ k, k < s.matchLen →
          Memory.read o (s.outNext.toNat + k) = Memory.read s.out (s.outNext.toNat - off + k % off)) ∧
        (∀ a, a < s.outNext.toNat ∨ s.outNext.toNat + s.matchLen ≤ a → Memory.read o a = Memory.read s.out a))

/-- O39. For DIST_0 to DIST_29 with their bits present: an offset over out_next ends the command with BAD_DATA, whether or
not the match would fit; else a length over out_n − out_next ends it with INSUFFICIENT_SPACE. No byte of the match is
written, out_next and the object stay, and C stands behind the offset symbol. (R609; R612.) -/
def Obligations.MatchChecks : Prop :=
  ∀ (i : Instr) (s : State) (sym cw xw y : Nat), i.layout = .coded .offset sym cw xw y → sym ≤ 29 →
    s.c + (cw + xw) ≤ 8 * s.inN →
    (s.outNext.toNat < offBase sym + y →
      ∃ t, exec i s = .next t ∧ State.EndedWith .badData t ∧ t.c = s.c + (cw + xw) ∧ t.out = s.out ∧
        t.outNext = s.outNext ∧ s.SameObject t) ∧
    (offBase sym + y ≤ s.outNext.toNat → s.outN.toNat - s.outNext.toNat < s.matchLen →
      ∃ t, exec i s = .next t ∧ State.EndedWith .insufficientSpace t ∧ t.c = s.c + (cw + xw) ∧ t.out = s.out ∧
        t.outNext = s.outNext ∧ s.SameObject t)

/-- O40. A reserved lit/len or offset symbol ends the command with BAD_DATA, with no bit of it consumed here, and OUT,
out_next and the object as they were. Under the reference policy (not this hardware's) the lit/len ones would be a
length of 258 with no extra bits, and the offset ones base 24577 with 13 extra bits. (43_body_decode.md R649, R650,
R690, R691; 30_encoding.md R311.) -/
def Obligations.ReservedSymbolsAreBadData : Prop :=
  (∀ (s : State) (cw : BitVec 4) (i : Instr), i = .len286 cw ∨ i = .len287 cw ∨ i = .dist30 cw ∨ i = .dist31 cw →
    ∃ t, exec i s = .next t ∧ State.EndedWith .badData t ∧ t.c = s.c ∧ t.out = s.out ∧ t.outNext = s.outNext ∧
      s.SameObject t) ∧
  (∀ (s : State) (cw : Nat), s.reservedLength .reference cw = s.lengthElement cw 258 ∧
    s.reservedOffset .reference cw = s.offsetElement (cw + 13) (24577 + peekBits s.inBuf (s.c + cw) 13))

/-- O41. State.reset has precode_lens, lens, the three tables and sorted_syms all 0 at their sizes, static_codes_loaded
and litlen_tablebits 0, busy 0, result SUCCESS, both counts 0, both valid bits and refused 0. (An entry's word is 0;
its symbol tag is the model's own, log entry 11.) (R900; R901.) -/
def Obligations.PowerOnState : Prop :=
  State.reset.precodeLens = List.replicate 19 0 ∧ State.reset.lens = List.replicate 457 0 ∧
  State.reset.precodeTable.map Entry.word = List.replicate 128 0 ∧
  State.reset.litlenTable.map Entry.word = List.replicate 2342 0 ∧
  State.reset.offsetTable.map Entry.word = List.replicate 402 0 ∧
  State.reset.sortedSyms = List.replicate 288 0 ∧ State.reset.staticCodesLoaded = false ∧
  State.reset.litlenTablebits = 0 ∧ State.reset.busy = false ∧ State.reset.result = .success ∧
  State.reset.actualIn = 0 ∧ State.reset.actualOut = 0 ∧ State.reset.actualInValid = false ∧
  State.reset.actualOutValid = false ∧ State.reset.refused = false

/-- O42. With busy = 0, CMD_RESET (bits 3:2 ignored) completes: every persistent element and every response register takes
its reset value, and OUT is not touched. That C, the other per-command state, what the host may read of OUT and the
port also stay is the model's choice (log entry 6). (44_decompressor.md R701; 10_state.md R123; log entry 6.) -/
def Obligations.ResetCommand : Prop :=
  ∀ (s : State) (flags : BitVec 2), s.busy = false →
    exec (.cmdReset flags) s =
      .next { s with
        precodeLens := List.replicate 19 0, lens := List.replicate 457 0,
        precodeTable := List.replicate 128 ⟨0, 0⟩, litlenTable := List.replicate 2342 ⟨0, 0⟩,
        offsetTable := List.replicate 402 ⟨0, 0⟩, sortedSyms := List.replicate 288 0, staticCodesLoaded := false,
        litlenTablebits := 0, busy := false, result := .success, actualIn := 0, actualOut := 0,
        actualInValid := false, actualOutValid := false, refused := false }

/-- O43. With busy = 0, CMD_DECOMPRESS is accepted: busy = 1, refused = 0, C = 0, out_next = 0, the datapath registers 0,
IN, out_n and the two flags as given, and a block header is decoded next; the object and the response registers but
refused keep their values. That OUT starts with no byte written and none defined, and that final and the counts stay,
is the model's choice (log entries 7, 8, 24). (44_decompressor.md R703, R704; 10_state.md R110, R113, R119; log
entries 7, 8, 24.) -/
def Obligations.DecompressAccepted : Prop :=
  ∀ (s : State) (wantIn wantOut : Bool) (inBytes : List Byte) (outN : Count), s.busy = false →
    exec (.cmdDecompress wantIn wantOut inBytes outN) s =
      .next { s with
        busy := true, refused := false, c := 0, outNext := 0, inBuf := inBytes, out := [], outN := outN,
        wantIn := wantIn, wantOut := wantOut, dp := ⟨0, 0, 0, 0⟩, phase := .blockHeader, outDefined := 0 }

/-- O44. CMD_RESERVED_2 and CMD_RESERVED_3 in any state, and CMD_RESET and CMD_DECOMPRESS while busy = 1, set refused and
change nothing else; a word with a bit of 31:4 set, and any word while busy = 1, is refused by the step that takes it,
and the running command is not disturbed. (R702.) -/
def Obligations.RefusedCommands : Prop :=
  (∀ (s : State) (rest : BitVec 30),
    exec (.cmdReserved2 rest) s = .next { s with refused := true } ∧
    exec (.cmdReserved3 rest) s = .next { s with refused := true }) ∧
  (∀ (s : State) (flags : BitVec 2) (a b : Bool) (inBytes : List Byte) (outN : Count), s.busy = true →
    exec (.cmdReset flags) s = .next { s with refused := true } ∧
    exec (.cmdDecompress a b inBytes outN) s = .next { s with refused := true }) ∧
  (∀ (s : State) (m : HostCmd), s.port = some m →
    s.busy = true ∨ m.word.extractLsb' 0 2 = 2 ∨ m.word.extractLsb' 0 2 = 3 ∨ m.word.extractLsb' 4 28 ≠ 0 →
    step s = .next { s with port := none, refused := true })

/-- O45. After a raise, result is BAD_DATA or INSUFFICIENT_SPACE: INSUFFICIENT_SPACE exactly for the three space causes
(60 R802), BAD_DATA for the twelve others (60 R801), with the codes 3 and 1 among the four of 30 R318. Both valid bits
are 0 and busy is 0; the object, OUT, out_next, C and the operands hold what the rules wrote; and no later element is
decoded: with no command at the port a step changes nothing. (R800; R710; R808.) -/
def Obligations.RaiseEndsTheCommand : Prop :=
  ∀ (s : State) (e : Cause),
    (e.result = .badData ∨ e.result = .insufficientSpace) ∧
    (e.result = .insufficientSpace ↔ e = .literalSpace ∨ e = .storedSpace ∨ e = .matchSpace) ∧
    (e.result = .badData ↔ e ∈ [Cause.overread, .storedHeaderTruncated, .storedDataTruncated, .badBlockType, .lenNlen,
      .overfullCode, .incompleteCode, .repeatNoPrevious, .lensCountMismatch, .offsetTooFar, .reservedLitlen,
      .reservedOffset]) ∧
    (Result.success.code = 0 ∧ Result.badData.code = 1 ∧ Result.shortOutput.code = 2 ∧
      Result.insufficientSpace.code = 3) ∧ State.EndedWith e.result (s.raise e) ∧
    s.SameObject (s.raise e) ∧ s.SameOperands (s.raise e) ∧ (s.raise e).out = s.out ∧
    (s.raise e).outNext = s.outNext ∧ (s.raise e).c = s.c ∧ (s.raise e).refused = s.refused ∧
    (s.port = none → step (s.raise e) = .next (s.raise e))

/-- O46. finish gives SHORT_OUTPUT exactly when want_actual_out = 0 and out_next ≠ out_n, else SUCCESS; actual_in_valid is
want_actual_in, and then actual_in = ceil(C/8); actual_out_valid is want_actual_out and SUCCESS, and then actual_out =
out_next; busy falls, as 44 R703 has it after finish; the object, OUT, C and out_next stay. What a count holds while
its valid bit is 0 is left open (log entry 9). (R705.) -/
def Obligations.FinishReports : Prop :=
  ∀ s : State, s.CursorOk → s.InputOk →
    (s.finish.result = .shortOutput ↔ s.wantOut = false ∧ s.outNext ≠ s.outN) ∧
    (s.finish.result ≠ .shortOutput → s.finish.result = .success) ∧
    s.finish.actualInValid = s.wantIn ∧ (s.wantIn = true → s.finish.actualIn.toNat = (s.c + 7) / 8) ∧
    (s.finish.actualOutValid = true ↔ s.wantOut = true ∧ s.finish.result = .success) ∧
    (s.finish.actualOutValid = true → s.finish.actualOut = s.outNext) ∧ s.finish.busy = false ∧
    s.SameObject s.finish ∧ s.SameOperands s.finish ∧ s.finish.out = s.out ∧ s.finish.c = s.c ∧
    s.finish.outNext = s.outNext ∧ s.finish.refused = s.refused

/-- O47. Once finish has run, every byte of OUT below out_next reads as the byte written there, and a byte from out_next
to out_n is a free value. After a raise, or while busy = 1, every byte below out_n reads as a free value. That a free
value is one per index until a command next ends, and that nothing is read at or past out_n, is the model's choice
(log entry 8). (20_memory.md R207; 70_reset_and_hazards.md R904; 44_decompressor.md R710; log entry 8.) -/
def Obligations.HostReadsTheOutput : Prop :=
  ∀ (s : State) (a : Nat), s.OutOk →
    (a < s.outNext.toNat → ∃ v, Memory.read s.out a = some v ∧ s.finish.hostOut a = some v) ∧
    (s.outNext.toNat ≤ a → a < s.outN.toNat →
      s.finish.hostOut a = some (Config.freeByte s.finish.freeCtr a)) ∧
    (s.outN.toNat ≤ a → s.hostOut a = none) ∧
    (∀ e, a < s.outN.toNat → (s.raise e).hostOut a = some (Config.freeByte (s.raise e).freeCtr a)) ∧
    (s.busy = true → a < s.outN.toNat → s.hostOut a = some (Config.freeByte s.freeCtr a))

/-- O48. exec answers a refusal for no instruction and no state, and neither does step; the only fault a step can answer
is one of the three that mark situations the spec excludes (log entries 7, 13, 16). (30_encoding.md R300, R321.) -/
def Obligations.NoInstructionIsRefused : Prop :=
  (∀ (i : Instr) (s : State) (r : Refusal), exec i s ≠ .refused r) ∧ (∀ (s : State) (r : Refusal), step s ≠ .refused r)

/-- O49. While a body is decoded, a step leaves every table, lens, precode_lens, sorted_syms, the flag and
litlen_tablebits as they were, however it ends. (70_reset_and_hazards.md R909; 43_body_decode.md R600, R611.) -/
def Obligations.BodyKeepsTheObject : Prop :=
  ∀ s t : State, s.port = none → s.busy = true → s.phase = .body ∨ s.phase = .offset → step s = .next t → s.SameObject t

/-- O50. With no command at the port a step keeps IN, out_n and the two flag operands, and does not lower C. (20_memory.md
R200, R213; 10_state.md R110, R111.) -/
def Obligations.RunningCommandKeepsItsInput : Prop :=
  ∀ s t : State, s.port = none → step s = .next t → s.SameOperands t ∧ s.c ≤ t.c

/-- O51. If busy is 1 before and after a step, result, both counts and both valid bits are unchanged, and refused is
unchanged or has become 1. (R904.) -/
def Obligations.ResponseHoldsWhileBusy : Prop :=
  ∀ s t : State, s.busy = true → step s = .next t → t.busy = true →
    t.result = s.result ∧ t.actualIn = s.actualIn ∧ t.actualOut = s.actualOut ∧ t.actualInValid = s.actualInValid ∧
    t.actualOutValid = s.actualOutValid ∧ (t.refused = s.refused ∨ t.refused = true)

/-- O52. If OUT holds exactly the bytes below out_next, no step stops at a copy that reads a byte this command has not
written; and with no command at the port, a step that answers a next state does not lower out_next, leaves every byte
below the old out_next as it was, and writes none at or past out_n. (20_memory.md R202, R203.) -/
def Obligations.OutputIsWrittenForward : Prop :=
  ∀ s : State, s.OutOk →
    step s ≠ .fault .outReadUnwritten ∧
    ∀ t, s.port = none → step s = .next t →
      s.outNext.toNat ≤ t.outNext.toNat ∧
      (∀ a, a < s.outNext.toNat → Memory.read t.out a = Memory.read s.out a) ∧
      (∀ a, s.outN.toNat ≤ a → Memory.read t.out a = none)

/-- O53. If every array has its size and the counts are in range, so it is after a step: 19, 457, 128, 2342, 402 and 288
entries; nlit ≤ 288, noff ≤ 32, ncl ≤ 19, litlen_tablebits ≤ 11; the loop variables inside their loops; a match of 3
to 258 before its offset symbol. In the code-length loop of such a state every run has 1 to 138 entries and ends
inside the 457 entries of lens. (10_state.md R101 to R106, R108, R115; 42_block_header.md R515 to R517, R522, R528;
41_table_builder.md R465.) -/
def Obligations.SizesAndRangesKept : Prop :=
  (∀ s t : State, s.Sized → s.Ranged → step s = .next t → t.Sized ∧ t.Ranged) ∧
  (∀ (i : Instr) (s : State) (bits r : Nat) (v : BitVec 4), s.Ranged → s.index < s.total →
    codeLenRun i s = some (bits, r, v) → 1 ≤ r ∧ r ≤ 138 ∧ s.index + r ≤ 457)

/-- O54. If C ≤ 8·in_n, out_next ≤ out_n, OUT is canonical and holds exactly the bytes below out_next, and the last
response defines no byte past out_next, so it is after every step. The form of OUT and what is defined of it are the
model's choice (log entries 7 and 8). (10_state.md R110; 20_memory.md R202; 43_body_decode.md R603; log entries 7, 8.) -/
def Obligations.CursorAndOutputBoundsKept : Prop :=
  ∀ s t : State, s.CursorOk → s.OutOk → step s = .next t → t.CursorOk ∧ t.OutOk

/-- O55. If the flag being 1 implies that litlen_table, litlen_tablebits and offset_table hold what load_fixed_codes
builds, and it is 0 while a dynamic header is parsed, so it is after every step, whether the step raises or not.
(R107.) -/
def Obligations.FlagInvariantKept : Prop :=
  ∀ s t : State, s.FlagOk → step s = .next t → t.FlagOk

/-- O56. In a state that keeps the model's invariants, a step leaves a state in which the code-length loop has the precode
table built from precode_lens, and a body has an offset table and a lit/len table that builds of accepted lengths
gave, with the lit/len root width in litlen_tablebits. (70_reset_and_hazards.md R909; 41_table_builder.md R450, R451;
42_block_header.md R521, R529.) -/
def Obligations.TablesInUseAreBuilt : Prop :=
  ∀ s t : State, s.Inv → step s = .next t → t.TablesBuilt ∧ t.InputOk

/-- O57. State.reset has every array at its size, the counts in range, C ≤ 8·in_n, OUT canonical and within out_n, the
flag's invariant, tables in use built (none is), and the datapath linked (nothing is asked of it while busy = 0). 10
R123 gives the arrays, litlen_tablebits, the flag and busy their values; C, in_n, out_n, out_next and the three counts
are not live there, and their zeros are the model's choice (log entry 5), as are OUT, the bytes defined of it and the
empty port (log entries 7, 8 and 3). (10_state.md R123; 40_bit_reader.md R428; log entries 3, 5, 7, 8.) -/
def Obligations.ResetKeepsEveryInvariant : Prop :=
  State.reset.Inv ∧ State.reset.DatapathOk

/-- O58. In a state that keeps the model's invariants every step answers a next state, or stops at a build past its
table's size, which 41 R465 says no accepted code needs: no step reads an OUT byte that was not written or meets a
table entry that names no symbol. (20_memory.md R203; 43_body_decode.md R605; 41_table_builder.md R465, R466.) -/
def Obligations.OnlyABuildCanStop : Prop :=
  ∀ s : State, s.Inv → (∃ t, step s = .next t) ∨ step s = .fault .tableOverflow

/-- O59. From a state that keeps the invariants, with a command running and none at the port, within 8·in_n + 1 steps busy
falls, or a build needs more entries than its table has, which 41 R465 says no accepted code does (the fault
tableOverflow, log entry 13). Every element takes at least one bit of the input, and the builds and the copies belong
to the step of their element (log entry 1). (44_decompressor.md R716; 43_body_decode.md R617; 41_table_builder.md
R465; log entries 1, 13.) -/
def Obligations.CommandEnds : Prop :=
  ∀ s : State, s.Inv → s.busy = true → s.port = none →
    ∃ n, n ≤ 8 * s.inN + 1 ∧ ((∃ t, s.run n = .next t ∧ t.busy = false) ∨ s.run n = .fault .tableOverflow)

/-- O60. For any DECOMPRESS submitted to an idle block in a state that keeps the invariants, and any number of steps, the
host sees what it would see of the same command on a block that has just been reset: the command runs or has ended
alike, with the same result, valid bits, valid counts, refused bit and defined bytes of OUT. (R711.) -/
def Obligations.NoResultDependsOnEarlierCommands : Prop :=
  ∀ (s : State) (wantIn wantOut : Bool) (inBytes : List Byte) (outN : Count) (m : HostCmd) (n : Nat),
    s.Inv → s.busy = false → s.port = none → inBytes.length < 2 ^ 64 →
    commandOf (.cmdDecompress wantIn wantOut inBytes outN) = some m →
    visible ((s.submit m).run (n + 1)) = visible ((State.reset.submit m).run (n + 1))

end
end

