-- ==== Sys2Proof/Laws/Memory.lean ====
section
/-! SUPPORT. OUT as memory: the canonical form, and reading after writing. -/

namespace Sys2Proof.Machine
open Sys2Proof

/-- An empty OUT is canonical; it is the OUT of `State.reset` and of an accepted command. -/
theorem Memory.wf_nil : Memory.wf [] = true := rfl

theorem State.reset_out_wf : Memory.wf State.reset.out = true := rfl

/-- The head of a canonical list may be dropped. -/
theorem Memory.wf_tail {p : Host.Cell} {m : Memory} (h : Memory.wf (p :: m) = true) : Memory.wf m = true := by
  cases m with
  | nil => rfl
  | cons q m =>
    simp only [Memory.wf, Bool.and_eq_true] at h
    exact h.2

/-- A byte reads as it was written (20 R203). -/
theorem Memory.read_write_same (m : Memory) (x : Nat) (w : Byte) : Memory.read (Memory.write m x w) x = some w := by
  induction m with
  | nil => simp [Memory.write, Memory.read]
  | cons p m ih =>
    obtain ⟨a, v⟩ := p
    simp only [Memory.write]
    split
    · simp [Memory.read]
    · split
      · next h => simp [Memory.read, h]
      · next h => simp [Memory.read, h, ih]

/-- A write leaves every other byte as it was (20 R202). -/
theorem Memory.read_write_other {x y : Nat} (m : Memory) (w : Byte) (h : y ≠ x) :
    Memory.read (Memory.write m x w) y = Memory.read m y := by
  induction m with
  | nil => simp [Memory.write, Memory.read, h]
  | cons p m ih =>
    obtain ⟨a, v⟩ := p
    simp only [Memory.write]
    split
    · simp [Memory.read, h]
    · split
      · next hx => subst hx; simp [Memory.read, h]
      · simp [Memory.read, ih]

/-- The first address after a write. -/
theorem Memory.head_write (m : Memory) (x : Nat) (w : Byte) :
    ∃ v r, Memory.write m x w = (x, v) :: r ∨ ∃ a u q, m = (a, u) :: q ∧ a < x ∧ Memory.write m x w = (a, v) :: r := by
  cases m with
  | nil => exact ⟨w, [], .inl rfl⟩
  | cons p m =>
    obtain ⟨a, v⟩ := p
    simp only [Memory.write]
    by_cases h1 : x < a
    · exact ⟨w, (a, v) :: m, .inl (by simp [h1])⟩
    · by_cases h2 : x = a
      · exact ⟨w, m, .inl (by simp [h2])⟩
      · exact ⟨v, Memory.write m x w, .inr ⟨a, v, m, rfl, by omega, by simp [h1, h2]⟩⟩

/-- Writing keeps the canonical form. -/
theorem Memory.wf_write {m : Memory} (x : Nat) (w : Byte) (h : Memory.wf m = true) :
    Memory.wf (Memory.write m x w) = true := by
  induction m with
  | nil => rfl
  | cons p m ih =>
    obtain ⟨a, v⟩ := p
    have ht := Memory.wf_tail h
    simp only [Memory.write]
    by_cases h1 : x < a
    · simp [h1, Memory.wf, h]
    · by_cases h2 : x = a
      · subst h2
        simp only [Nat.lt_irrefl, if_false, if_true]
        cases m with
        | nil => rfl
        | cons q m => simpa [Memory.wf] using h
      · simp only [h1, h2, if_false]
        obtain ⟨u, r, hr | ⟨b, u', q, hm, hb, hr⟩⟩ := Memory.head_write m x w
        · have := ih ht
          rw [hr] at this ⊢
          simp only [Memory.wf, Bool.and_eq_true, decide_eq_true_eq]
          exact ⟨by omega, this⟩
        · have h' := ih ht
          rw [hr] at h' ⊢
          subst hm
          simp only [Memory.wf, Bool.and_eq_true, decide_eq_true_eq] at h ⊢
          exact ⟨h.1, h'⟩

/-- Below its first address a canonical memory holds nothing. -/
theorem Memory.read_none_of_lt {p : Host.Cell} {m : Memory} {x : Nat} (h : Memory.wf (p :: m) = true) (hx : x < p.1) :
    Memory.read (p :: m) x = none := by
  induction m generalizing p with
  | nil =>
    obtain ⟨a, v⟩ := p
    simp only [Memory.read]
    rw [if_neg (by simpa using Nat.ne_of_lt hx)]
  | cons q m ih =>
    obtain ⟨a, v⟩ := p
    simp only [Memory.wf, Bool.and_eq_true, decide_eq_true_eq] at h
    simp only [Memory.read]
    rw [if_neg (by simpa using Nat.ne_of_lt hx)]
    exact ih h.2 (by simp only at hx; omega)

/-- Two canonical memories that read alike at every address are one and the same list: equal contents are equal data. -/
theorem Memory.ext_read {m n : Memory} (hm : Memory.wf m = true) (hn : Memory.wf n = true)
    (h : ∀ a, Memory.read m a = Memory.read n a) : m = n := by
  induction m generalizing n with
  | nil =>
    cases n with
    | nil => rfl
    | cons q n =>
      obtain ⟨b, w⟩ := q
      have := h b
      simp [Memory.read] at this
  | cons p m ih =>
    obtain ⟨a, v⟩ := p
    cases n with
    | nil =>
      have := h a
      simp [Memory.read] at this
    | cons q n =>
      obtain ⟨b, w⟩ := q
      have hab : a = b := by
        rcases Nat.lt_trichotomy a b with hlt | heq | hgt
        · have := h a
          rw [Memory.read_none_of_lt hn hlt] at this
          simp [Memory.read] at this
        · exact heq
        · have := h b
          rw [Memory.read_none_of_lt hm hgt] at this
          simp [Memory.read] at this
      subst hab
      have hvw : v = w := by
        have := h a
        simpa [Memory.read] using this
      subst hvw
      have : m = n := by
        refine ih (Memory.wf_tail hm) (Memory.wf_tail hn) fun x => ?_
        by_cases hx : x = a
        · subst hx
          have e1 : Memory.read m x = none := by
            cases m with
            | nil => rfl
            | cons r m =>
              simp only [Memory.wf, Bool.and_eq_true, decide_eq_true_eq] at hm
              exact Memory.read_none_of_lt hm.2 hm.1
          have e2 : Memory.read n x = none := by
            cases n with
            | nil => rfl
            | cons r n =>
              simp only [Memory.wf, Bool.and_eq_true, decide_eq_true_eq] at hn
              exact Memory.read_none_of_lt hn.2 hn.1
          rw [e1, e2]
        · have := h x
          simpa [Memory.read, hx] using this
      rw [this]

/-- `State.emit` keeps OUT canonical. -/
theorem State.emit_out_wf {s : State} (v : Byte) (h : Memory.wf s.out = true) : Memory.wf (s.emit v).out = true :=
  Memory.wf_write _ _ h

/-- What `State.emit` writes, and that it writes nothing else. -/
theorem State.emit_read (s : State) (v : Byte) (a : Nat) :
    Memory.read (s.emit v).out a = if a = s.outNext.toNat then some v else Memory.read s.out a := by
  by_cases h : a = s.outNext.toNat
  · subst h
    simp [State.emit, Memory.read_write_same]
  · simp [State.emit, Memory.read_write_other _ _ h, h]

/-- A match copy keeps OUT canonical. -/
theorem State.copyMatch_out_wf {offset n : Nat} {s t : State} (h : State.copyMatch offset n s = some t)
    (hw : Memory.wf s.out = true) : Memory.wf t.out = true := by
  induction n generalizing s with
  | zero => simp only [State.copyMatch, Option.some.injEq] at h; exact h ▸ hw
  | succ n ih =>
    simp only [State.copyMatch] at h
    split at h
    · exact ih h (State.emit_out_wf _ hw)
    · cases h

/-- A stored copy keeps OUT canonical. -/
theorem State.copyStored_out_wf {n : Nat} {s : State} (hw : Memory.wf s.out = true) :
    Memory.wf (State.copyStored n s).out = true := by
  induction n generalizing s with
  | zero => exact hw
  | succ n ih => exact ih (State.emit_out_wf _ hw)

end Sys2Proof.Machine
end

