-- ==== Sys2Proof/Laws/State.lean ====
section
/-! SUPPORT. One lemma for each field of State after each update that the shared operations make of it. -/

namespace Sys2Proof.Machine
open Sys2Proof

/-! `State.advance` -/

@[simp] theorem State.advance_precodeLens (s : State) (n : Nat) : (s.advance n).precodeLens = s.precodeLens := rfl
@[simp] theorem State.advance_lens (s : State) (n : Nat) : (s.advance n).lens = s.lens := rfl
@[simp] theorem State.advance_precodeTable (s : State) (n : Nat) : (s.advance n).precodeTable = s.precodeTable := rfl
@[simp] theorem State.advance_litlenTable (s : State) (n : Nat) : (s.advance n).litlenTable = s.litlenTable := rfl
@[simp] theorem State.advance_offsetTable (s : State) (n : Nat) : (s.advance n).offsetTable = s.offsetTable := rfl
@[simp] theorem State.advance_sortedSyms (s : State) (n : Nat) : (s.advance n).sortedSyms = s.sortedSyms := rfl
@[simp] theorem State.advance_staticCodesLoaded (s : State) (n : Nat) : (s.advance n).staticCodesLoaded = s.staticCodesLoaded := rfl
@[simp] theorem State.advance_litlenTablebits (s : State) (n : Nat) : (s.advance n).litlenTablebits = s.litlenTablebits := rfl
@[simp] theorem State.advance_c (s : State) (n : Nat) : (s.advance n).c = s.c + n := rfl
@[simp] theorem State.advance_inBuf (s : State) (n : Nat) : (s.advance n).inBuf = s.inBuf := rfl
@[simp] theorem State.advance_out (s : State) (n : Nat) : (s.advance n).out = s.out := rfl
@[simp] theorem State.advance_outN (s : State) (n : Nat) : (s.advance n).outN = s.outN := rfl
@[simp] theorem State.advance_outNext (s : State) (n : Nat) : (s.advance n).outNext = s.outNext := rfl
@[simp] theorem State.advance_final (s : State) (n : Nat) : (s.advance n).final = s.final := rfl
@[simp] theorem State.advance_nlit (s : State) (n : Nat) : (s.advance n).nlit = s.nlit := rfl
@[simp] theorem State.advance_noff (s : State) (n : Nat) : (s.advance n).noff = s.noff := rfl
@[simp] theorem State.advance_ncl (s : State) (n : Nat) : (s.advance n).ncl = s.ncl := rfl
@[simp] theorem State.advance_wantIn (s : State) (n : Nat) : (s.advance n).wantIn = s.wantIn := rfl
@[simp] theorem State.advance_wantOut (s : State) (n : Nat) : (s.advance n).wantOut = s.wantOut := rfl
@[simp] theorem State.advance_busy (s : State) (n : Nat) : (s.advance n).busy = s.busy := rfl
@[simp] theorem State.advance_result (s : State) (n : Nat) : (s.advance n).result = s.result := rfl
@[simp] theorem State.advance_actualIn (s : State) (n : Nat) : (s.advance n).actualIn = s.actualIn := rfl
@[simp] theorem State.advance_actualOut (s : State) (n : Nat) : (s.advance n).actualOut = s.actualOut := rfl
@[simp] theorem State.advance_actualInValid (s : State) (n : Nat) : (s.advance n).actualInValid = s.actualInValid := rfl
@[simp] theorem State.advance_actualOutValid (s : State) (n : Nat) : (s.advance n).actualOutValid = s.actualOutValid := rfl
@[simp] theorem State.advance_refused (s : State) (n : Nat) : (s.advance n).refused = s.refused := rfl
@[simp] theorem State.advance_dp (s : State) (n : Nat) : (s.advance n).dp = s.dp.consume n := rfl
@[simp] theorem State.advance_phase (s : State) (n : Nat) : (s.advance n).phase = s.phase := rfl
@[simp] theorem State.advance_index (s : State) (n : Nat) : (s.advance n).index = s.index := rfl
@[simp] theorem State.advance_matchLen (s : State) (n : Nat) : (s.advance n).matchLen = s.matchLen := rfl
@[simp] theorem State.advance_port (s : State) (n : Nat) : (s.advance n).port = s.port := rfl
@[simp] theorem State.advance_outDefined (s : State) (n : Nat) : (s.advance n).outDefined = s.outDefined := rfl
@[simp] theorem State.advance_freeCtr (s : State) (n : Nat) : (s.advance n).freeCtr = s.freeCtr := rfl

/-! `State.refill` -/

@[simp] theorem State.refill_precodeLens (s : State) : (s.refill).precodeLens = s.precodeLens := rfl
@[simp] theorem State.refill_lens (s : State) : (s.refill).lens = s.lens := rfl
@[simp] theorem State.refill_precodeTable (s : State) : (s.refill).precodeTable = s.precodeTable := rfl
@[simp] theorem State.refill_litlenTable (s : State) : (s.refill).litlenTable = s.litlenTable := rfl
@[simp] theorem State.refill_offsetTable (s : State) : (s.refill).offsetTable = s.offsetTable := rfl
@[simp] theorem State.refill_sortedSyms (s : State) : (s.refill).sortedSyms = s.sortedSyms := rfl
@[simp] theorem State.refill_staticCodesLoaded (s : State) : (s.refill).staticCodesLoaded = s.staticCodesLoaded := rfl
@[simp] theorem State.refill_litlenTablebits (s : State) : (s.refill).litlenTablebits = s.litlenTablebits := rfl
@[simp] theorem State.refill_c (s : State) : (s.refill).c = s.c := rfl
@[simp] theorem State.refill_inBuf (s : State) : (s.refill).inBuf = s.inBuf := rfl
@[simp] theorem State.refill_out (s : State) : (s.refill).out = s.out := rfl
@[simp] theorem State.refill_outN (s : State) : (s.refill).outN = s.outN := rfl
@[simp] theorem State.refill_outNext (s : State) : (s.refill).outNext = s.outNext := rfl
@[simp] theorem State.refill_final (s : State) : (s.refill).final = s.final := rfl
@[simp] theorem State.refill_nlit (s : State) : (s.refill).nlit = s.nlit := rfl
@[simp] theorem State.refill_noff (s : State) : (s.refill).noff = s.noff := rfl
@[simp] theorem State.refill_ncl (s : State) : (s.refill).ncl = s.ncl := rfl
@[simp] theorem State.refill_wantIn (s : State) : (s.refill).wantIn = s.wantIn := rfl
@[simp] theorem State.refill_wantOut (s : State) : (s.refill).wantOut = s.wantOut := rfl
@[simp] theorem State.refill_busy (s : State) : (s.refill).busy = s.busy := rfl
@[simp] theorem State.refill_result (s : State) : (s.refill).result = s.result := rfl
@[simp] theorem State.refill_actualIn (s : State) : (s.refill).actualIn = s.actualIn := rfl
@[simp] theorem State.refill_actualOut (s : State) : (s.refill).actualOut = s.actualOut := rfl
@[simp] theorem State.refill_actualInValid (s : State) : (s.refill).actualInValid = s.actualInValid := rfl
@[simp] theorem State.refill_actualOutValid (s : State) : (s.refill).actualOutValid = s.actualOutValid := rfl
@[simp] theorem State.refill_refused (s : State) : (s.refill).refused = s.refused := rfl
@[simp] theorem State.refill_dp (s : State) : (s.refill).dp = s.dp.refill s.inBuf := rfl
@[simp] theorem State.refill_phase (s : State) : (s.refill).phase = s.phase := rfl
@[simp] theorem State.refill_index (s : State) : (s.refill).index = s.index := rfl
@[simp] theorem State.refill_matchLen (s : State) : (s.refill).matchLen = s.matchLen := rfl
@[simp] theorem State.refill_port (s : State) : (s.refill).port = s.port := rfl
@[simp] theorem State.refill_outDefined (s : State) : (s.refill).outDefined = s.outDefined := rfl
@[simp] theorem State.refill_freeCtr (s : State) : (s.refill).freeCtr = s.freeCtr := rfl

/-! `State.alignToByte` -/

@[simp] theorem State.alignToByte_precodeLens (s : State) : (s.alignToByte).precodeLens = s.precodeLens := rfl
@[simp] theorem State.alignToByte_lens (s : State) : (s.alignToByte).lens = s.lens := rfl
@[simp] theorem State.alignToByte_precodeTable (s : State) : (s.alignToByte).precodeTable = s.precodeTable := rfl
@[simp] theorem State.alignToByte_litlenTable (s : State) : (s.alignToByte).litlenTable = s.litlenTable := rfl
@[simp] theorem State.alignToByte_offsetTable (s : State) : (s.alignToByte).offsetTable = s.offsetTable := rfl
@[simp] theorem State.alignToByte_sortedSyms (s : State) : (s.alignToByte).sortedSyms = s.sortedSyms := rfl
@[simp] theorem State.alignToByte_staticCodesLoaded (s : State) : (s.alignToByte).staticCodesLoaded = s.staticCodesLoaded := rfl
@[simp] theorem State.alignToByte_litlenTablebits (s : State) : (s.alignToByte).litlenTablebits = s.litlenTablebits := rfl
@[simp] theorem State.alignToByte_c (s : State) : (s.alignToByte).c = 8 * ((s.c + 7) / 8) := rfl
@[simp] theorem State.alignToByte_inBuf (s : State) : (s.alignToByte).inBuf = s.inBuf := rfl
@[simp] theorem State.alignToByte_out (s : State) : (s.alignToByte).out = s.out := rfl
@[simp] theorem State.alignToByte_outN (s : State) : (s.alignToByte).outN = s.outN := rfl
@[simp] theorem State.alignToByte_outNext (s : State) : (s.alignToByte).outNext = s.outNext := rfl
@[simp] theorem State.alignToByte_final (s : State) : (s.alignToByte).final = s.final := rfl
@[simp] theorem State.alignToByte_nlit (s : State) : (s.alignToByte).nlit = s.nlit := rfl
@[simp] theorem State.alignToByte_noff (s : State) : (s.alignToByte).noff = s.noff := rfl
@[simp] theorem State.alignToByte_ncl (s : State) : (s.alignToByte).ncl = s.ncl := rfl
@[simp] theorem State.alignToByte_wantIn (s : State) : (s.alignToByte).wantIn = s.wantIn := rfl
@[simp] theorem State.alignToByte_wantOut (s : State) : (s.alignToByte).wantOut = s.wantOut := rfl
@[simp] theorem State.alignToByte_busy (s : State) : (s.alignToByte).busy = s.busy := rfl
@[simp] theorem State.alignToByte_result (s : State) : (s.alignToByte).result = s.result := rfl
@[simp] theorem State.alignToByte_actualIn (s : State) : (s.alignToByte).actualIn = s.actualIn := rfl
@[simp] theorem State.alignToByte_actualOut (s : State) : (s.alignToByte).actualOut = s.actualOut := rfl
@[simp] theorem State.alignToByte_actualInValid (s : State) : (s.alignToByte).actualInValid = s.actualInValid := rfl
@[simp] theorem State.alignToByte_actualOutValid (s : State) : (s.alignToByte).actualOutValid = s.actualOutValid := rfl
@[simp] theorem State.alignToByte_refused (s : State) : (s.alignToByte).refused = s.refused := rfl
@[simp] theorem State.alignToByte_dp (s : State) : (s.alignToByte).dp = s.dp.align := rfl
@[simp] theorem State.alignToByte_phase (s : State) : (s.alignToByte).phase = s.phase := rfl
@[simp] theorem State.alignToByte_index (s : State) : (s.alignToByte).index = s.index := rfl
@[simp] theorem State.alignToByte_matchLen (s : State) : (s.alignToByte).matchLen = s.matchLen := rfl
@[simp] theorem State.alignToByte_port (s : State) : (s.alignToByte).port = s.port := rfl
@[simp] theorem State.alignToByte_outDefined (s : State) : (s.alignToByte).outDefined = s.outDefined := rfl
@[simp] theorem State.alignToByte_freeCtr (s : State) : (s.alignToByte).freeCtr = s.freeCtr := rfl

/-! `State.nextByte` -/

@[simp] theorem State.nextByte_precodeLens (s : State) : (s.nextByte).precodeLens = s.precodeLens := rfl
@[simp] theorem State.nextByte_lens (s : State) : (s.nextByte).lens = s.lens := rfl
@[simp] theorem State.nextByte_precodeTable (s : State) : (s.nextByte).precodeTable = s.precodeTable := rfl
@[simp] theorem State.nextByte_litlenTable (s : State) : (s.nextByte).litlenTable = s.litlenTable := rfl
@[simp] theorem State.nextByte_offsetTable (s : State) : (s.nextByte).offsetTable = s.offsetTable := rfl
@[simp] theorem State.nextByte_sortedSyms (s : State) : (s.nextByte).sortedSyms = s.sortedSyms := rfl
@[simp] theorem State.nextByte_staticCodesLoaded (s : State) : (s.nextByte).staticCodesLoaded = s.staticCodesLoaded := rfl
@[simp] theorem State.nextByte_litlenTablebits (s : State) : (s.nextByte).litlenTablebits = s.litlenTablebits := rfl
@[simp] theorem State.nextByte_c (s : State) : (s.nextByte).c = s.c + 8 := rfl
@[simp] theorem State.nextByte_inBuf (s : State) : (s.nextByte).inBuf = s.inBuf := rfl
@[simp] theorem State.nextByte_out (s : State) : (s.nextByte).out = s.out := rfl
@[simp] theorem State.nextByte_outN (s : State) : (s.nextByte).outN = s.outN := rfl
@[simp] theorem State.nextByte_outNext (s : State) : (s.nextByte).outNext = s.outNext := rfl
@[simp] theorem State.nextByte_final (s : State) : (s.nextByte).final = s.final := rfl
@[simp] theorem State.nextByte_nlit (s : State) : (s.nextByte).nlit = s.nlit := rfl
@[simp] theorem State.nextByte_noff (s : State) : (s.nextByte).noff = s.noff := rfl
@[simp] theorem State.nextByte_ncl (s : State) : (s.nextByte).ncl = s.ncl := rfl
@[simp] theorem State.nextByte_wantIn (s : State) : (s.nextByte).wantIn = s.wantIn := rfl
@[simp] theorem State.nextByte_wantOut (s : State) : (s.nextByte).wantOut = s.wantOut := rfl
@[simp] theorem State.nextByte_busy (s : State) : (s.nextByte).busy = s.busy := rfl
@[simp] theorem State.nextByte_result (s : State) : (s.nextByte).result = s.result := rfl
@[simp] theorem State.nextByte_actualIn (s : State) : (s.nextByte).actualIn = s.actualIn := rfl
@[simp] theorem State.nextByte_actualOut (s : State) : (s.nextByte).actualOut = s.actualOut := rfl
@[simp] theorem State.nextByte_actualInValid (s : State) : (s.nextByte).actualInValid = s.actualInValid := rfl
@[simp] theorem State.nextByte_actualOutValid (s : State) : (s.nextByte).actualOutValid = s.actualOutValid := rfl
@[simp] theorem State.nextByte_refused (s : State) : (s.nextByte).refused = s.refused := rfl
@[simp] theorem State.nextByte_dp (s : State) : (s.nextByte).dp = s.dp.nextByte := rfl
@[simp] theorem State.nextByte_phase (s : State) : (s.nextByte).phase = s.phase := rfl
@[simp] theorem State.nextByte_index (s : State) : (s.nextByte).index = s.index := rfl
@[simp] theorem State.nextByte_matchLen (s : State) : (s.nextByte).matchLen = s.matchLen := rfl
@[simp] theorem State.nextByte_port (s : State) : (s.nextByte).port = s.port := rfl
@[simp] theorem State.nextByte_outDefined (s : State) : (s.nextByte).outDefined = s.outDefined := rfl
@[simp] theorem State.nextByte_freeCtr (s : State) : (s.nextByte).freeCtr = s.freeCtr := rfl

/-! `State.emit` -/

@[simp] theorem State.emit_precodeLens (s : State) (v : Byte) : (s.emit v).precodeLens = s.precodeLens := rfl
@[simp] theorem State.emit_lens (s : State) (v : Byte) : (s.emit v).lens = s.lens := rfl
@[simp] theorem State.emit_precodeTable (s : State) (v : Byte) : (s.emit v).precodeTable = s.precodeTable := rfl
@[simp] theorem State.emit_litlenTable (s : State) (v : Byte) : (s.emit v).litlenTable = s.litlenTable := rfl
@[simp] theorem State.emit_offsetTable (s : State) (v : Byte) : (s.emit v).offsetTable = s.offsetTable := rfl
@[simp] theorem State.emit_sortedSyms (s : State) (v : Byte) : (s.emit v).sortedSyms = s.sortedSyms := rfl
@[simp] theorem State.emit_staticCodesLoaded (s : State) (v : Byte) : (s.emit v).staticCodesLoaded = s.staticCodesLoaded := rfl
@[simp] theorem State.emit_litlenTablebits (s : State) (v : Byte) : (s.emit v).litlenTablebits = s.litlenTablebits := rfl
@[simp] theorem State.emit_c (s : State) (v : Byte) : (s.emit v).c = s.c := rfl
@[simp] theorem State.emit_inBuf (s : State) (v : Byte) : (s.emit v).inBuf = s.inBuf := rfl
@[simp] theorem State.emit_out (s : State) (v : Byte) : (s.emit v).out = Memory.write s.out s.outNext.toNat v := rfl
@[simp] theorem State.emit_outN (s : State) (v : Byte) : (s.emit v).outN = s.outN := rfl
@[simp] theorem State.emit_outNext (s : State) (v : Byte) : (s.emit v).outNext = s.outNext + 1 := rfl
@[simp] theorem State.emit_final (s : State) (v : Byte) : (s.emit v).final = s.final := rfl
@[simp] theorem State.emit_nlit (s : State) (v : Byte) : (s.emit v).nlit = s.nlit := rfl
@[simp] theorem State.emit_noff (s : State) (v : Byte) : (s.emit v).noff = s.noff := rfl
@[simp] theorem State.emit_ncl (s : State) (v : Byte) : (s.emit v).ncl = s.ncl := rfl
@[simp] theorem State.emit_wantIn (s : State) (v : Byte) : (s.emit v).wantIn = s.wantIn := rfl
@[simp] theorem State.emit_wantOut (s : State) (v : Byte) : (s.emit v).wantOut = s.wantOut := rfl
@[simp] theorem State.emit_busy (s : State) (v : Byte) : (s.emit v).busy = s.busy := rfl
@[simp] theorem State.emit_result (s : State) (v : Byte) : (s.emit v).result = s.result := rfl
@[simp] theorem State.emit_actualIn (s : State) (v : Byte) : (s.emit v).actualIn = s.actualIn := rfl
@[simp] theorem State.emit_actualOut (s : State) (v : Byte) : (s.emit v).actualOut = s.actualOut := rfl
@[simp] theorem State.emit_actualInValid (s : State) (v : Byte) : (s.emit v).actualInValid = s.actualInValid := rfl
@[simp] theorem State.emit_actualOutValid (s : State) (v : Byte) : (s.emit v).actualOutValid = s.actualOutValid := rfl
@[simp] theorem State.emit_refused (s : State) (v : Byte) : (s.emit v).refused = s.refused := rfl
@[simp] theorem State.emit_dp (s : State) (v : Byte) : (s.emit v).dp = s.dp := rfl
@[simp] theorem State.emit_phase (s : State) (v : Byte) : (s.emit v).phase = s.phase := rfl
@[simp] theorem State.emit_index (s : State) (v : Byte) : (s.emit v).index = s.index := rfl
@[simp] theorem State.emit_matchLen (s : State) (v : Byte) : (s.emit v).matchLen = s.matchLen := rfl
@[simp] theorem State.emit_port (s : State) (v : Byte) : (s.emit v).port = s.port := rfl
@[simp] theorem State.emit_outDefined (s : State) (v : Byte) : (s.emit v).outDefined = s.outDefined := rfl
@[simp] theorem State.emit_freeCtr (s : State) (v : Byte) : (s.emit v).freeCtr = s.freeCtr := rfl

/-! `State.raise` -/

@[simp] theorem State.raise_precodeLens (s : State) (e : Cause) : (s.raise e).precodeLens = s.precodeLens := rfl
@[simp] theorem State.raise_lens (s : State) (e : Cause) : (s.raise e).lens = s.lens := rfl
@[simp] theorem State.raise_precodeTable (s : State) (e : Cause) : (s.raise e).precodeTable = s.precodeTable := rfl
@[simp] theorem State.raise_litlenTable (s : State) (e : Cause) : (s.raise e).litlenTable = s.litlenTable := rfl
@[simp] theorem State.raise_offsetTable (s : State) (e : Cause) : (s.raise e).offsetTable = s.offsetTable := rfl
@[simp] theorem State.raise_sortedSyms (s : State) (e : Cause) : (s.raise e).sortedSyms = s.sortedSyms := rfl
@[simp] theorem State.raise_staticCodesLoaded (s : State) (e : Cause) : (s.raise e).staticCodesLoaded = s.staticCodesLoaded := rfl
@[simp] theorem State.raise_litlenTablebits (s : State) (e : Cause) : (s.raise e).litlenTablebits = s.litlenTablebits := rfl
@[simp] theorem State.raise_c (s : State) (e : Cause) : (s.raise e).c = s.c := rfl
@[simp] theorem State.raise_inBuf (s : State) (e : Cause) : (s.raise e).inBuf = s.inBuf := rfl
@[simp] theorem State.raise_out (s : State) (e : Cause) : (s.raise e).out = s.out := rfl
@[simp] theorem State.raise_outN (s : State) (e : Cause) : (s.raise e).outN = s.outN := rfl
@[simp] theorem State.raise_outNext (s : State) (e : Cause) : (s.raise e).outNext = s.outNext := rfl
@[simp] theorem State.raise_final (s : State) (e : Cause) : (s.raise e).final = s.final := rfl
@[simp] theorem State.raise_nlit (s : State) (e : Cause) : (s.raise e).nlit = s.nlit := rfl
@[simp] theorem State.raise_noff (s : State) (e : Cause) : (s.raise e).noff = s.noff := rfl
@[simp] theorem State.raise_ncl (s : State) (e : Cause) : (s.raise e).ncl = s.ncl := rfl
@[simp] theorem State.raise_wantIn (s : State) (e : Cause) : (s.raise e).wantIn = s.wantIn := rfl
@[simp] theorem State.raise_wantOut (s : State) (e : Cause) : (s.raise e).wantOut = s.wantOut := rfl
@[simp] theorem State.raise_busy (s : State) (e : Cause) : (s.raise e).busy = false := rfl
@[simp] theorem State.raise_result (s : State) (e : Cause) : (s.raise e).result = e.result := rfl
@[simp] theorem State.raise_actualInValid (s : State) (e : Cause) : (s.raise e).actualInValid = false := rfl
@[simp] theorem State.raise_actualOutValid (s : State) (e : Cause) : (s.raise e).actualOutValid = false := rfl
@[simp] theorem State.raise_refused (s : State) (e : Cause) : (s.raise e).refused = s.refused := rfl
@[simp] theorem State.raise_dp (s : State) (e : Cause) : (s.raise e).dp = s.dp := rfl
@[simp] theorem State.raise_phase (s : State) (e : Cause) : (s.raise e).phase = s.phase := rfl
@[simp] theorem State.raise_index (s : State) (e : Cause) : (s.raise e).index = s.index := rfl
@[simp] theorem State.raise_matchLen (s : State) (e : Cause) : (s.raise e).matchLen = s.matchLen := rfl
@[simp] theorem State.raise_port (s : State) (e : Cause) : (s.raise e).port = s.port := rfl
@[simp] theorem State.raise_outDefined (s : State) (e : Cause) : (s.raise e).outDefined = 0 := rfl
@[simp] theorem State.raise_freeCtr (s : State) (e : Cause) : (s.raise e).freeCtr = s.freeCtr + 2 := rfl

/-! `State.finish` -/

@[simp] theorem State.finish_precodeLens (s : State) : (s.finish).precodeLens = s.precodeLens := rfl
@[simp] theorem State.finish_lens (s : State) : (s.finish).lens = s.lens := rfl
@[simp] theorem State.finish_precodeTable (s : State) : (s.finish).precodeTable = s.precodeTable := rfl
@[simp] theorem State.finish_litlenTable (s : State) : (s.finish).litlenTable = s.litlenTable := rfl
@[simp] theorem State.finish_offsetTable (s : State) : (s.finish).offsetTable = s.offsetTable := rfl
@[simp] theorem State.finish_sortedSyms (s : State) : (s.finish).sortedSyms = s.sortedSyms := rfl
@[simp] theorem State.finish_staticCodesLoaded (s : State) : (s.finish).staticCodesLoaded = s.staticCodesLoaded := rfl
@[simp] theorem State.finish_litlenTablebits (s : State) : (s.finish).litlenTablebits = s.litlenTablebits := rfl
@[simp] theorem State.finish_c (s : State) : (s.finish).c = s.c := rfl
@[simp] theorem State.finish_inBuf (s : State) : (s.finish).inBuf = s.inBuf := rfl
@[simp] theorem State.finish_out (s : State) : (s.finish).out = s.out := rfl
@[simp] theorem State.finish_outN (s : State) : (s.finish).outN = s.outN := rfl
@[simp] theorem State.finish_outNext (s : State) : (s.finish).outNext = s.outNext := rfl
@[simp] theorem State.finish_final (s : State) : (s.finish).final = s.final := rfl
@[simp] theorem State.finish_nlit (s : State) : (s.finish).nlit = s.nlit := rfl
@[simp] theorem State.finish_noff (s : State) : (s.finish).noff = s.noff := rfl
@[simp] theorem State.finish_ncl (s : State) : (s.finish).ncl = s.ncl := rfl
@[simp] theorem State.finish_wantIn (s : State) : (s.finish).wantIn = s.wantIn := rfl
@[simp] theorem State.finish_wantOut (s : State) : (s.finish).wantOut = s.wantOut := rfl
@[simp] theorem State.finish_busy (s : State) : (s.finish).busy = false := rfl
@[simp] theorem State.finish_result (s : State) : (s.finish).result = s.finalResult := rfl
@[simp] theorem State.finish_actualIn (s : State) : (s.finish).actualIn = if s.wantIn then BitVec.ofNat 64 ((s.c + 7) / 8) else Config.freeCount s.freeCtr := rfl
@[simp] theorem State.finish_actualOut (s : State) : (s.finish).actualOut = if s.wantOut && decide (s.finalResult = .success) then s.outNext else Config.freeCount (s.freeCtr + 1) := rfl
@[simp] theorem State.finish_actualInValid (s : State) : (s.finish).actualInValid = s.wantIn := rfl
@[simp] theorem State.finish_actualOutValid (s : State) : (s.finish).actualOutValid = (s.wantOut && decide (s.finalResult = .success)) := rfl
@[simp] theorem State.finish_refused (s : State) : (s.finish).refused = s.refused := rfl
@[simp] theorem State.finish_dp (s : State) : (s.finish).dp = { s.dp with inNext := s.dp.rewound } := rfl
@[simp] theorem State.finish_phase (s : State) : (s.finish).phase = s.phase := rfl
@[simp] theorem State.finish_index (s : State) : (s.finish).index = s.index := rfl
@[simp] theorem State.finish_matchLen (s : State) : (s.finish).matchLen = s.matchLen := rfl
@[simp] theorem State.finish_port (s : State) : (s.finish).port = s.port := rfl
@[simp] theorem State.finish_outDefined (s : State) : (s.finish).outDefined = s.outNext := rfl
@[simp] theorem State.finish_freeCtr (s : State) : (s.finish).freeCtr = s.freeCtr + 2 := rfl

/-! `State.refuse` -/

@[simp] theorem State.refuse_precodeLens (s : State) : (s.refuse).precodeLens = s.precodeLens := rfl
@[simp] theorem State.refuse_lens (s : State) : (s.refuse).lens = s.lens := rfl
@[simp] theorem State.refuse_precodeTable (s : State) : (s.refuse).precodeTable = s.precodeTable := rfl
@[simp] theorem State.refuse_litlenTable (s : State) : (s.refuse).litlenTable = s.litlenTable := rfl
@[simp] theorem State.refuse_offsetTable (s : State) : (s.refuse).offsetTable = s.offsetTable := rfl
@[simp] theorem State.refuse_sortedSyms (s : State) : (s.refuse).sortedSyms = s.sortedSyms := rfl
@[simp] theorem State.refuse_staticCodesLoaded (s : State) : (s.refuse).staticCodesLoaded = s.staticCodesLoaded := rfl
@[simp] theorem State.refuse_litlenTablebits (s : State) : (s.refuse).litlenTablebits = s.litlenTablebits := rfl
@[simp] theorem State.refuse_c (s : State) : (s.refuse).c = s.c := rfl
@[simp] theorem State.refuse_inBuf (s : State) : (s.refuse).inBuf = s.inBuf := rfl
@[simp] theorem State.refuse_out (s : State) : (s.refuse).out = s.out := rfl
@[simp] theorem State.refuse_outN (s : State) : (s.refuse).outN = s.outN := rfl
@[simp] theorem State.refuse_outNext (s : State) : (s.refuse).outNext = s.outNext := rfl
@[simp] theorem State.refuse_final (s : State) : (s.refuse).final = s.final := rfl
@[simp] theorem State.refuse_nlit (s : State) : (s.refuse).nlit = s.nlit := rfl
@[simp] theorem State.refuse_noff (s : State) : (s.refuse).noff = s.noff := rfl
@[simp] theorem State.refuse_ncl (s : State) : (s.refuse).ncl = s.ncl := rfl
@[simp] theorem State.refuse_wantIn (s : State) : (s.refuse).wantIn = s.wantIn := rfl
@[simp] theorem State.refuse_wantOut (s : State) : (s.refuse).wantOut = s.wantOut := rfl
@[simp] theorem State.refuse_busy (s : State) : (s.refuse).busy = s.busy := rfl
@[simp] theorem State.refuse_result (s : State) : (s.refuse).result = s.result := rfl
@[simp] theorem State.refuse_actualIn (s : State) : (s.refuse).actualIn = s.actualIn := rfl
@[simp] theorem State.refuse_actualOut (s : State) : (s.refuse).actualOut = s.actualOut := rfl
@[simp] theorem State.refuse_actualInValid (s : State) : (s.refuse).actualInValid = s.actualInValid := rfl
@[simp] theorem State.refuse_actualOutValid (s : State) : (s.refuse).actualOutValid = s.actualOutValid := rfl
@[simp] theorem State.refuse_refused (s : State) : (s.refuse).refused = true := rfl
@[simp] theorem State.refuse_dp (s : State) : (s.refuse).dp = s.dp := rfl
@[simp] theorem State.refuse_phase (s : State) : (s.refuse).phase = s.phase := rfl
@[simp] theorem State.refuse_index (s : State) : (s.refuse).index = s.index := rfl
@[simp] theorem State.refuse_matchLen (s : State) : (s.refuse).matchLen = s.matchLen := rfl
@[simp] theorem State.refuse_port (s : State) : (s.refuse).port = s.port := rfl
@[simp] theorem State.refuse_outDefined (s : State) : (s.refuse).outDefined = s.outDefined := rfl
@[simp] theorem State.refuse_freeCtr (s : State) : (s.refuse).freeCtr = s.freeCtr := rfl

/-! `State.takePort` -/

@[simp] theorem State.takePort_precodeLens (s : State) : (s.takePort).precodeLens = s.precodeLens := rfl
@[simp] theorem State.takePort_lens (s : State) : (s.takePort).lens = s.lens := rfl
@[simp] theorem State.takePort_precodeTable (s : State) : (s.takePort).precodeTable = s.precodeTable := rfl
@[simp] theorem State.takePort_litlenTable (s : State) : (s.takePort).litlenTable = s.litlenTable := rfl
@[simp] theorem State.takePort_offsetTable (s : State) : (s.takePort).offsetTable = s.offsetTable := rfl
@[simp] theorem State.takePort_sortedSyms (s : State) : (s.takePort).sortedSyms = s.sortedSyms := rfl
@[simp] theorem State.takePort_staticCodesLoaded (s : State) : (s.takePort).staticCodesLoaded = s.staticCodesLoaded := rfl
@[simp] theorem State.takePort_litlenTablebits (s : State) : (s.takePort).litlenTablebits = s.litlenTablebits := rfl
@[simp] theorem State.takePort_c (s : State) : (s.takePort).c = s.c := rfl
@[simp] theorem State.takePort_inBuf (s : State) : (s.takePort).inBuf = s.inBuf := rfl
@[simp] theorem State.takePort_out (s : State) : (s.takePort).out = s.out := rfl
@[simp] theorem State.takePort_outN (s : State) : (s.takePort).outN = s.outN := rfl
@[simp] theorem State.takePort_outNext (s : State) : (s.takePort).outNext = s.outNext := rfl
@[simp] theorem State.takePort_final (s : State) : (s.takePort).final = s.final := rfl
@[simp] theorem State.takePort_nlit (s : State) : (s.takePort).nlit = s.nlit := rfl
@[simp] theorem State.takePort_noff (s : State) : (s.takePort).noff = s.noff := rfl
@[simp] theorem State.takePort_ncl (s : State) : (s.takePort).ncl = s.ncl := rfl
@[simp] theorem State.takePort_wantIn (s : State) : (s.takePort).wantIn = s.wantIn := rfl
@[simp] theorem State.takePort_wantOut (s : State) : (s.takePort).wantOut = s.wantOut := rfl
@[simp] theorem State.takePort_busy (s : State) : (s.takePort).busy = s.busy := rfl
@[simp] theorem State.takePort_result (s : State) : (s.takePort).result = s.result := rfl
@[simp] theorem State.takePort_actualIn (s : State) : (s.takePort).actualIn = s.actualIn := rfl
@[simp] theorem State.takePort_actualOut (s : State) : (s.takePort).actualOut = s.actualOut := rfl
@[simp] theorem State.takePort_actualInValid (s : State) : (s.takePort).actualInValid = s.actualInValid := rfl
@[simp] theorem State.takePort_actualOutValid (s : State) : (s.takePort).actualOutValid = s.actualOutValid := rfl
@[simp] theorem State.takePort_refused (s : State) : (s.takePort).refused = s.refused := rfl
@[simp] theorem State.takePort_dp (s : State) : (s.takePort).dp = s.dp := rfl
@[simp] theorem State.takePort_phase (s : State) : (s.takePort).phase = s.phase := rfl
@[simp] theorem State.takePort_index (s : State) : (s.takePort).index = s.index := rfl
@[simp] theorem State.takePort_matchLen (s : State) : (s.takePort).matchLen = s.matchLen := rfl
@[simp] theorem State.takePort_port (s : State) : (s.takePort).port = none := rfl
@[simp] theorem State.takePort_outDefined (s : State) : (s.takePort).outDefined = s.outDefined := rfl
@[simp] theorem State.takePort_freeCtr (s : State) : (s.takePort).freeCtr = s.freeCtr := rfl

/-! `State.accept` -/

@[simp] theorem State.accept_precodeLens (s : State) (a b : Bool) (m : List Byte) (n : Count) : (s.accept a b m n).precodeLens = s.precodeLens := rfl
@[simp] theorem State.accept_lens (s : State) (a b : Bool) (m : List Byte) (n : Count) : (s.accept a b m n).lens = s.lens := rfl
@[simp] theorem State.accept_precodeTable (s : State) (a b : Bool) (m : List Byte) (n : Count) : (s.accept a b m n).precodeTable = s.precodeTable := rfl
@[simp] theorem State.accept_litlenTable (s : State) (a b : Bool) (m : List Byte) (n : Count) : (s.accept a b m n).litlenTable = s.litlenTable := rfl
@[simp] theorem State.accept_offsetTable (s : State) (a b : Bool) (m : List Byte) (n : Count) : (s.accept a b m n).offsetTable = s.offsetTable := rfl
@[simp] theorem State.accept_sortedSyms (s : State) (a b : Bool) (m : List Byte) (n : Count) : (s.accept a b m n).sortedSyms = s.sortedSyms := rfl
@[simp] theorem State.accept_staticCodesLoaded (s : State) (a b : Bool) (m : List Byte) (n : Count) : (s.accept a b m n).staticCodesLoaded = s.staticCodesLoaded := rfl
@[simp] theorem State.accept_litlenTablebits (s : State) (a b : Bool) (m : List Byte) (n : Count) : (s.accept a b m n).litlenTablebits = s.litlenTablebits := rfl
@[simp] theorem State.accept_c (s : State) (a b : Bool) (m : List Byte) (n : Count) : (s.accept a b m n).c = 0 := rfl
@[simp] theorem State.accept_inBuf (s : State) (a b : Bool) (m : List Byte) (n : Count) : (s.accept a b m n).inBuf = m := rfl
@[simp] theorem State.accept_out (s : State) (a b : Bool) (m : List Byte) (n : Count) : (s.accept a b m n).out = [] := rfl
@[simp] theorem State.accept_outN (s : State) (a b : Bool) (m : List Byte) (n : Count) : (s.accept a b m n).outN = n := rfl
@[simp] theorem State.accept_outNext (s : State) (a b : Bool) (m : List Byte) (n : Count) : (s.accept a b m n).outNext = 0 := rfl
@[simp] theorem State.accept_final (s : State) (a b : Bool) (m : List Byte) (n : Count) : (s.accept a b m n).final = s.final := rfl
@[simp] theorem State.accept_nlit (s : State) (a b : Bool) (m : List Byte) (n : Count) : (s.accept a b m n).nlit = s.nlit := rfl
@[simp] theorem State.accept_noff (s : State) (a b : Bool) (m : List Byte) (n : Count) : (s.accept a b m n).noff = s.noff := rfl
@[simp] theorem State.accept_ncl (s : State) (a b : Bool) (m : List Byte) (n : Count) : (s.accept a b m n).ncl = s.ncl := rfl
@[simp] theorem State.accept_wantIn (s : State) (a b : Bool) (m : List Byte) (n : Count) : (s.accept a b m n).wantIn = a := rfl
@[simp] theorem State.accept_wantOut (s : State) (a b : Bool) (m : List Byte) (n : Count) : (s.accept a b m n).wantOut = b := rfl
@[simp] theorem State.accept_busy (s : State) (a b : Bool) (m : List Byte) (n : Count) : (s.accept a b m n).busy = true := rfl
@[simp] theorem State.accept_result (s : State) (a b : Bool) (m : List Byte) (n : Count) : (s.accept a b m n).result = s.result := rfl
@[simp] theorem State.accept_actualIn (s : State) (a b : Bool) (m : List Byte) (n : Count) : (s.accept a b m n).actualIn = s.actualIn := rfl
@[simp] theorem State.accept_actualOut (s : State) (a b : Bool) (m : List Byte) (n : Count) : (s.accept a b m n).actualOut = s.actualOut := rfl
@[simp] theorem State.accept_actualInValid (s : State) (a b : Bool) (m : List Byte) (n : Count) : (s.accept a b m n).actualInValid = s.actualInValid := rfl
@[simp] theorem State.accept_actualOutValid (s : State) (a b : Bool) (m : List Byte) (n : Count) : (s.accept a b m n).actualOutValid = s.actualOutValid := rfl
@[simp] theorem State.accept_refused (s : State) (a b : Bool) (m : List Byte) (n : Count) : (s.accept a b m n).refused = false := rfl
@[simp] theorem State.accept_dp (s : State) (a b : Bool) (m : List Byte) (n : Count) : (s.accept a b m n).dp = Datapath.zero := rfl
@[simp] theorem State.accept_phase (s : State) (a b : Bool) (m : List Byte) (n : Count) : (s.accept a b m n).phase = .blockHeader := rfl
@[simp] theorem State.accept_index (s : State) (a b : Bool) (m : List Byte) (n : Count) : (s.accept a b m n).index = s.index := rfl
@[simp] theorem State.accept_matchLen (s : State) (a b : Bool) (m : List Byte) (n : Count) : (s.accept a b m n).matchLen = s.matchLen := rfl
@[simp] theorem State.accept_port (s : State) (a b : Bool) (m : List Byte) (n : Count) : (s.accept a b m n).port = s.port := rfl
@[simp] theorem State.accept_outDefined (s : State) (a b : Bool) (m : List Byte) (n : Count) : (s.accept a b m n).outDefined = 0 := rfl
@[simp] theorem State.accept_freeCtr (s : State) (a b : Bool) (m : List Byte) (n : Count) : (s.accept a b m n).freeCtr = s.freeCtr := rfl

/-! `State.setPrecodeLen` -/

@[simp] theorem State.setPrecodeLen_precodeLens (s : State) (i : Nat) (l : BitVec 3) : (s.setPrecodeLen i l).precodeLens = s.precodeLens.set (permAt i) l := rfl
@[simp] theorem State.setPrecodeLen_lens (s : State) (i : Nat) (l : BitVec 3) : (s.setPrecodeLen i l).lens = s.lens := rfl
@[simp] theorem State.setPrecodeLen_precodeTable (s : State) (i : Nat) (l : BitVec 3) : (s.setPrecodeLen i l).precodeTable = s.precodeTable := rfl
@[simp] theorem State.setPrecodeLen_litlenTable (s : State) (i : Nat) (l : BitVec 3) : (s.setPrecodeLen i l).litlenTable = s.litlenTable := rfl
@[simp] theorem State.setPrecodeLen_offsetTable (s : State) (i : Nat) (l : BitVec 3) : (s.setPrecodeLen i l).offsetTable = s.offsetTable := rfl
@[simp] theorem State.setPrecodeLen_sortedSyms (s : State) (i : Nat) (l : BitVec 3) : (s.setPrecodeLen i l).sortedSyms = s.sortedSyms := rfl
@[simp] theorem State.setPrecodeLen_staticCodesLoaded (s : State) (i : Nat) (l : BitVec 3) : (s.setPrecodeLen i l).staticCodesLoaded = s.staticCodesLoaded := rfl
@[simp] theorem State.setPrecodeLen_litlenTablebits (s : State) (i : Nat) (l : BitVec 3) : (s.setPrecodeLen i l).litlenTablebits = s.litlenTablebits := rfl
@[simp] theorem State.setPrecodeLen_c (s : State) (i : Nat) (l : BitVec 3) : (s.setPrecodeLen i l).c = s.c := rfl
@[simp] theorem State.setPrecodeLen_inBuf (s : State) (i : Nat) (l : BitVec 3) : (s.setPrecodeLen i l).inBuf = s.inBuf := rfl
@[simp] theorem State.setPrecodeLen_out (s : State) (i : Nat) (l : BitVec 3) : (s.setPrecodeLen i l).out = s.out := rfl
@[simp] theorem State.setPrecodeLen_outN (s : State) (i : Nat) (l : BitVec 3) : (s.setPrecodeLen i l).outN = s.outN := rfl
@[simp] theorem State.setPrecodeLen_outNext (s : State) (i : Nat) (l : BitVec 3) : (s.setPrecodeLen i l).outNext = s.outNext := rfl
@[simp] theorem State.setPrecodeLen_final (s : State) (i : Nat) (l : BitVec 3) : (s.setPrecodeLen i l).final = s.final := rfl
@[simp] theorem State.setPrecodeLen_nlit (s : State) (i : Nat) (l : BitVec 3) : (s.setPrecodeLen i l).nlit = s.nlit := rfl
@[simp] theorem State.setPrecodeLen_noff (s : State) (i : Nat) (l : BitVec 3) : (s.setPrecodeLen i l).noff = s.noff := rfl
@[simp] theorem State.setPrecodeLen_ncl (s : State) (i : Nat) (l : BitVec 3) : (s.setPrecodeLen i l).ncl = s.ncl := rfl
@[simp] theorem State.setPrecodeLen_wantIn (s : State) (i : Nat) (l : BitVec 3) : (s.setPrecodeLen i l).wantIn = s.wantIn := rfl
@[simp] theorem State.setPrecodeLen_wantOut (s : State) (i : Nat) (l : BitVec 3) : (s.setPrecodeLen i l).wantOut = s.wantOut := rfl
@[simp] theorem State.setPrecodeLen_busy (s : State) (i : Nat) (l : BitVec 3) : (s.setPrecodeLen i l).busy = s.busy := rfl
@[simp] theorem State.setPrecodeLen_result (s : State) (i : Nat) (l : BitVec 3) : (s.setPrecodeLen i l).result = s.result := rfl
@[simp] theorem State.setPrecodeLen_actualIn (s : State) (i : Nat) (l : BitVec 3) : (s.setPrecodeLen i l).actualIn = s.actualIn := rfl
@[simp] theorem State.setPrecodeLen_actualOut (s : State) (i : Nat) (l : BitVec 3) : (s.setPrecodeLen i l).actualOut = s.actualOut := rfl
@[simp] theorem State.setPrecodeLen_actualInValid (s : State) (i : Nat) (l : BitVec 3) : (s.setPrecodeLen i l).actualInValid = s.actualInValid := rfl
@[simp] theorem State.setPrecodeLen_actualOutValid (s : State) (i : Nat) (l : BitVec 3) : (s.setPrecodeLen i l).actualOutValid = s.actualOutValid := rfl
@[simp] theorem State.setPrecodeLen_refused (s : State) (i : Nat) (l : BitVec 3) : (s.setPrecodeLen i l).refused = s.refused := rfl
@[simp] theorem State.setPrecodeLen_dp (s : State) (i : Nat) (l : BitVec 3) : (s.setPrecodeLen i l).dp = s.dp := rfl
@[simp] theorem State.setPrecodeLen_phase (s : State) (i : Nat) (l : BitVec 3) : (s.setPrecodeLen i l).phase = s.phase := rfl
@[simp] theorem State.setPrecodeLen_index (s : State) (i : Nat) (l : BitVec 3) : (s.setPrecodeLen i l).index = s.index := rfl
@[simp] theorem State.setPrecodeLen_matchLen (s : State) (i : Nat) (l : BitVec 3) : (s.setPrecodeLen i l).matchLen = s.matchLen := rfl
@[simp] theorem State.setPrecodeLen_port (s : State) (i : Nat) (l : BitVec 3) : (s.setPrecodeLen i l).port = s.port := rfl
@[simp] theorem State.setPrecodeLen_outDefined (s : State) (i : Nat) (l : BitVec 3) : (s.setPrecodeLen i l).outDefined = s.outDefined := rfl
@[simp] theorem State.setPrecodeLen_freeCtr (s : State) (i : Nat) (l : BitVec 3) : (s.setPrecodeLen i l).freeCtr = s.freeCtr := rfl

/-! Derived readings -/

@[simp] theorem State.inN_advance (s : State) (n : Nat) : (s.advance n).inN = s.inN := rfl
@[simp] theorem State.inN_refill (s : State) : s.refill.inN = s.inN := rfl
@[simp] theorem State.inN_alignToByte (s : State) : s.alignToByte.inN = s.inN := rfl
@[simp] theorem State.inN_nextByte (s : State) : s.nextByte.inN = s.inN := rfl
@[simp] theorem State.inN_emit (s : State) (v : Byte) : (s.emit v).inN = s.inN := rfl
@[simp] theorem State.inN_raise (s : State) (e : Cause) : (s.raise e).inN = s.inN := rfl

/-- Removing bits twice is removing them at once, as far as the cursor goes. -/
theorem State.advance_advance_c (s : State) (m n : Nat) : ((s.advance m).advance n).c = s.c + (m + n) :=
  Nat.add_assoc s.c m n

/-- Every cause is one of the two results of 60 R800. -/
theorem Cause.result_cases (e : Cause) : e.result = .badData ∨ e.result = .insufficientSpace := by
  cases e <;> simp [Cause.result]

/-- What every raise leaves (44 R710). -/
theorem State.raise_ended (s : State) (e : Cause) : State.EndedWith e.result (s.raise e) :=
  ⟨rfl, rfl, rfl, rfl, rfl⟩

/-- A raise leaves the object alone (60 R805). -/
theorem State.raise_sameObject (s : State) (e : Cause) : s.SameObject (s.raise e) :=
  ⟨rfl, rfl, rfl, rfl, rfl, rfl, rfl, rfl⟩

end Sys2Proof.Machine
end

