-- ==== Sys2Proof/Laws/Ops.lean ====
section
/-! SUPPORT. For each operation that the meanings share, what it can answer, said once. -/

namespace Sys2Proof.Machine
open Sys2Proof

/-! ### Consuming (40 R403) -/

theorem State.consume_of_le {s : State} {n : Nat} (h : s.c + n ≤ 8 * s.inN) (k : State → Out) :
    s.consume n k = k (s.advance n) := by
  simp [State.consume, h]

theorem State.consume_of_lt {s : State} {n : Nat} (h : 8 * s.inN < s.c + n) (k : State → Out) :
    s.consume n k = .next (s.raise .overread) := by
  simp [State.consume, Nat.not_le.mpr h]

/-- A consume either raises, with nothing else done, or goes on with the cursor moved. -/
theorem State.consume_cases (s : State) (n : Nat) (k : State → Out) :
    (8 * s.inN < s.c + n ∧ s.consume n k = .next (s.raise .overread)) ∨
    (s.c + n ≤ 8 * s.inN ∧ s.consume n k = k (s.advance n)) := by
  by_cases h : s.c + n ≤ 8 * s.inN
  · exact .inr ⟨h, State.consume_of_le h k⟩
  · exact .inl ⟨Nat.lt_of_not_le h, State.consume_of_lt (Nat.lt_of_not_le h) k⟩

/-! ### The end of a block (44 R704) -/

theorem State.endBlock_of_final {s : State} (h : s.final = true) : s.endBlock = s.finish := by
  simp [State.endBlock, h]

theorem State.endBlock_of_not_final {s : State} (h : s.final = false) :
    s.endBlock = { s with phase := .blockHeader } := by
  simp [State.endBlock, h]

/-! ### Matches (43 R606, R611) -/

/-- A length symbol raises an overread, or leaves its length for the offset symbol. -/
theorem State.lengthElement_cases (s : State) (bits length : Nat) :
    (8 * s.inN < s.c + bits ∧ s.lengthElement bits length = .next (s.raise .overread)) ∨
    (s.c + bits ≤ 8 * s.inN ∧
      s.lengthElement bits length = .next { s.advance bits with matchLen := length, phase := .offset }) :=
  s.consume_cases bits _

/-- The second half of a match: an offset too far, no room, a stop, or the whole copy. -/
theorem State.doMatch_cases (s : State) (offset : Nat) :
    (s.outNext.toNat < offset ∧ s.doMatch offset = .next (s.raise .offsetTooFar)) ∨
    (offset ≤ s.outNext.toNat ∧ s.outN.toNat - s.outNext.toNat < s.matchLen ∧
      s.doMatch offset = .next (s.raise .matchSpace)) ∨
    (offset ≤ s.outNext.toNat ∧ s.matchLen ≤ s.outN.toNat - s.outNext.toNat ∧
      ((State.copyMatch offset s.matchLen s = none ∧ s.doMatch offset = .fault .outReadUnwritten) ∨
       ∃ t, State.copyMatch offset s.matchLen s = some t ∧ s.doMatch offset = .next { t with phase := .body })) := by
  unfold State.doMatch
  by_cases h1 : s.outNext.toNat < offset
  · exact .inl ⟨h1, by simp [h1]⟩
  · by_cases h2 : s.outN.toNat - s.outNext.toNat < s.matchLen
    · exact .inr (.inl ⟨Nat.le_of_not_lt h1, h2, by simp [h1, h2]⟩)
    · refine .inr (.inr ⟨Nat.le_of_not_lt h1, Nat.le_of_not_lt h2, ?_⟩)
      cases hc : State.copyMatch offset s.matchLen s with
      | none => exact .inl ⟨rfl, by simp [h1, h2]⟩
      | some t => exact .inr ⟨t, rfl, by simp [h1, h2]⟩

/-- An offset symbol: an overread, or the second half of the match. -/
theorem State.offsetElement_cases (s : State) (bits offset : Nat) :
    (8 * s.inN < s.c + bits ∧ s.offsetElement bits offset = .next (s.raise .overread)) ∨
    (s.c + bits ≤ 8 * s.inN ∧ s.offsetElement bits offset = (s.advance bits).doMatch offset) :=
  s.consume_cases bits _

/-- One byte of a match copy (43 R613). -/
theorem State.copyMatch_succ {s : State} {offset n : Nat} {v : Byte}
    (h : Memory.read s.out (s.outNext.toNat - offset) = some v) :
    State.copyMatch offset (n + 1) s = State.copyMatch offset n (s.emit v) := by
  simp [State.copyMatch, h]

/-- What a copy leaves alone: everything but OUT and `out_next`. -/
theorem State.copyMatch_frame {offset n : Nat} {s t : State} (h : State.copyMatch offset n s = some t) :
    t = { s with out := t.out, outNext := t.outNext } := by
  induction n generalizing s with
  | zero => simp only [State.copyMatch, Option.some.injEq] at h; exact h ▸ rfl
  | succ n ih =>
    simp only [State.copyMatch] at h
    split at h
    · exact ih (s := s.emit _) h
    · cases h

/-- What a stored copy leaves alone: everything but OUT, `out_next`, the cursor and its registers. -/
theorem State.copyStored_frame (n : Nat) (s : State) :
    State.copyStored n s =
      { s with
        out     := (State.copyStored n s).out
        outNext := (State.copyStored n s).outNext
        c       := s.c + 8 * n
        dp      := (State.copyStored n s).dp } := by
  induction n generalizing s with
  | zero => rfl
  | succ n ih =>
    rw [State.copyStored, ih]
    simp only [State.nextByte, State.emit, State.mk.injEq, and_self, true_and, and_true]
    omega

/-! ### Stored blocks (42 R504) -/

/-- The three checks of a stored block in their order, and the copy. -/
theorem State.storedData_cases (s : State) (len nlen : BitVec 16) :
    (len ≠ nlen ^^^ 0xFFFF ∧ s.storedData len nlen = .next (s.raise .lenNlen)) ∨
    (len = nlen ^^^ 0xFFFF ∧ s.inN - s.c / 8 < len.toNat ∧
      s.storedData len nlen = .next (s.raise .storedDataTruncated)) ∨
    (len = nlen ^^^ 0xFFFF ∧ len.toNat ≤ s.inN - s.c / 8 ∧ s.outN.toNat - s.outNext.toNat < len.toNat ∧
      s.storedData len nlen = .next (s.raise .storedSpace)) ∨
    (len = nlen ^^^ 0xFFFF ∧ len.toNat ≤ s.inN - s.c / 8 ∧ len.toNat ≤ s.outN.toNat - s.outNext.toNat ∧
      s.storedData len nlen = .next (State.copyStored len.toNat s).endBlock) := by
  unfold State.storedData
  by_cases h1 : len = nlen ^^^ 0xFFFF
  · by_cases h2 : s.inN - s.c / 8 < len.toNat
    · exact .inr (.inl ⟨h1, h2, by rw [if_neg (not_not.mpr h1), if_pos h2]⟩)
    · by_cases h3 : s.outN.toNat - s.outNext.toNat < len.toNat
      · exact .inr (.inr (.inl ⟨h1, Nat.le_of_not_lt h2, h3, by rw [if_neg (not_not.mpr h1), if_neg h2, if_pos h3]⟩))
      · exact .inr (.inr (.inr ⟨h1, Nat.le_of_not_lt h2, Nat.le_of_not_lt h3, by rw [if_neg (not_not.mpr h1), if_neg h2, if_neg h3]⟩))
  · exact .inl ⟨h1, by rw [if_pos h1]⟩

/-! ### Builds (41 R450, 42 R521, R529) -/

theorem State.buildPrecode_cases (s : State) (k : State → Out) :
    (∃ t, buildPrecodeTable s.precodeLengths = .ok t ∧ s.buildPrecode k = k (s.withPrecode t)) ∨
    (buildPrecodeTable s.precodeLengths = .error .overfull ∧ s.buildPrecode k = s.failPrecode .overfullCode) ∨
    (buildPrecodeTable s.precodeLengths = .error .incomplete ∧ s.buildPrecode k = s.failPrecode .incompleteCode) ∨
    (buildPrecodeTable s.precodeLengths = .error .overflow ∧ s.buildPrecode k = .fault .tableOverflow) := by
  unfold State.buildPrecode
  cases h : buildPrecodeTable s.precodeLengths with
  | ok t => exact .inl ⟨t, rfl, rfl⟩
  | error e => cases e <;> simp

theorem State.buildOffset_cases (s : State) (k : State → Out) :
    (∃ t, buildOffsetTable s.offsetLengths = .ok t ∧ s.buildOffset k = k (s.withOffset t)) ∨
    (buildOffsetTable s.offsetLengths = .error .overfull ∧ s.buildOffset k = s.failOffset .overfullCode) ∨
    (buildOffsetTable s.offsetLengths = .error .incomplete ∧ s.buildOffset k = s.failOffset .incompleteCode) ∨
    (buildOffsetTable s.offsetLengths = .error .overflow ∧ s.buildOffset k = .fault .tableOverflow) := by
  unfold State.buildOffset
  cases h : buildOffsetTable s.offsetLengths with
  | ok t => exact .inl ⟨t, rfl, rfl⟩
  | error e => cases e <;> simp

theorem State.buildLitlen_cases (s : State) (k : State → Out) :
    (∃ t, buildLitlenTable s.litlenLengths = .ok t ∧ s.buildLitlen k = k (s.withLitlen t)) ∨
    (buildLitlenTable s.litlenLengths = .error .overfull ∧ s.buildLitlen k = s.failLitlen .overfullCode) ∨
    (buildLitlenTable s.litlenLengths = .error .incomplete ∧ s.buildLitlen k = s.failLitlen .incompleteCode) ∨
    (buildLitlenTable s.litlenLengths = .error .overflow ∧ s.buildLitlen k = .fault .tableOverflow) := by
  unfold State.buildLitlen
  cases h : buildLitlenTable s.litlenLengths with
  | ok t => exact .inl ⟨t, rfl, rfl⟩
  | error e => cases e <;> simp

/-- The offset build does not read or write what the lit/len build reads. -/
theorem State.withOffset_litlenLengths (s : State) (t : List Entry) :
    (s.withOffset t).litlenLengths = s.litlenLengths := rfl

/-! ### Code lengths (42 R522 to R529) -/

/-- After a code-length symbol: the next one, the count check, or the two builds. -/
theorem State.afterLens_cases (s : State) :
    (s.index < s.total ∧ s.afterLens = .next s) ∨
    (s.total < s.index ∧ s.afterLens = .next (s.raise .lensCountMismatch)) ∨
    (s.index = s.total ∧ s.afterLens = s.buildCodes fun s1 => .next { s1 with phase := .body }) := by
  unfold State.afterLens
  rcases Nat.lt_trichotomy s.index s.total with h | h | h
  · exact .inl ⟨h, by simp [h]⟩
  · exact .inr (.inr ⟨h, by simp [h]⟩)
  · exact .inr (.inl ⟨h, by simp [Nat.not_lt.mpr (Nat.le_of_lt h), Nat.ne_of_gt h]⟩)

/-- After a precode length: the next one, or the zeros of the lengths that are not present and the build. -/
theorem State.afterPrecodeLen_cases (s : State) :
    (s.index < s.ncl.toNat ∧ s.afterPrecodeLen = .next s) ∨
    (s.ncl.toNat ≤ s.index ∧ s.afterPrecodeLen =
      (State.clearPrecodeLens (Config.numPrecodeSyms - s.ncl.toNat) s.ncl.toNat s).buildPrecode fun s1 =>
        .next { s1 with phase := .codeLen, index := 0 }) := by
  unfold State.afterPrecodeLen
  by_cases h : s.index < s.ncl.toNat
  · exact .inl ⟨h, by simp [h]⟩
  · exact .inr ⟨Nat.le_of_not_lt h, by simp [h]⟩

/-- A run keeps the size of its array. -/
@[simp] theorem setRun_length {α : Type} (v : α) (n i : Nat) (l : List α) : (setRun v n i l).length = l.length := by
  induction n generalizing i l with
  | zero => rfl
  | succ n ih => simp [setRun, ih]

/-- A run leaves what stands before it. -/
theorem setRun_getElem?_before {α : Type} (v : α) (n i j : Nat) (l : List α) (h : j < i) :
    (setRun v n i l)[j]? = l[j]? := by
  induction n generalizing i l with
  | zero => rfl
  | succ n ih =>
    rw [setRun, ih (i + 1) _ (by omega), List.getElem?_set_ne (by omega)]

/-- Installing a table keeps the size of its array, if it fits. -/
theorem overlay_length {α : Type} {new old : List α} (h : new.length ≤ old.length) :
    (overlay new old).length = old.length := by
  simp only [overlay, List.length_append, List.length_drop]
  omega

/-- The first cells of an installed table are the new ones. -/
theorem overlay_take {α : Type} (new old : List α) : (overlay new old).take new.length = new := by
  simp [overlay]

/-! ### The datapath (40 R424) -/

/-- What peek gives on the registers: the low bits of the buffer, and no others. -/
theorem Datapath.peek_testBit (d : Datapath) (n i : Nat) :
    (d.peek n).testBit i = (decide (i < n) && d.bitbuf.getLsbD i) := by
  rw [Datapath.peek, BitVec.testBit_toNat, BitVec.getLsbD_extractLsb', Nat.zero_add]

theorem Datapath.peek_lt (d : Datapath) (n : Nat) : d.peek n < 2 ^ n := BitVec.isLt _

/-! ### Fetching (43 R604) -/

/-- A lookup: a direct entry, a subtable entry behind a pointer, or a raise where the pointer's prefix crosses the end
of IN. -/
theorem State.lookup_cases (s : State) (table : List Entry) (T : Nat) (k : Entry → State → Fetched) :
    ((table.getD (s.peek T) default).isPointer = false ∧
      s.lookup table T k = k (table.getD (s.peek T) default) s) ∨
    ((table.getD (s.peek T) default).isPointer = true ∧
      8 * s.inN < s.c + (table.getD (s.peek T) default).nbits ∧ s.lookup table T k = .raised (s.raise .overread)) ∨
    ((table.getD (s.peek T) default).isPointer = true ∧
      s.c + (table.getD (s.peek T) default).nbits ≤ 8 * s.inN ∧
      s.lookup table T k =
        k (table.getD ((table.getD (s.peek T) default).subStart +
              (s.advance (table.getD (s.peek T) default).nbits).peek (table.getD (s.peek T) default).cwbits.toNat) default)
          (s.advance (table.getD (s.peek T) default).nbits)) := by
  unfold State.lookup
  generalize table.getD (s.peek T) default = e
  cases hp : e.isPointer with
  | false => exact .inl ⟨rfl, by simp [hp]⟩
  | true =>
    by_cases h : s.c + e.nbits ≤ 8 * s.inN
    · exact .inr (.inr ⟨rfl, h, by simp [hp, h]⟩)
    · exact .inr (.inl ⟨rfl, Nat.lt_of_not_le h, by simp [hp, h]⟩)

/-! ### A step (44 R700) -/

/-- With a command at the port, a step executes it; with none, a running command's next element; else nothing. -/
theorem step_cases (s : State) :
    (∃ m i, s.port = some m ∧ decodeCommand m = .ok i ∧ step s = exec i s.takePort) ∨
    (∃ m e, s.port = some m ∧ decodeCommand m = .error e ∧ step s = .next s.takePort.refuse) ∨
    (s.port = none ∧ s.busy = true ∧ ∃ i s1, fetch s = .instr i s1 ∧ step s = exec i s1) ∨
    (s.port = none ∧ s.busy = true ∧ ∃ s1, fetch s = .raised s1 ∧ step s = .next s1) ∨
    (s.port = none ∧ s.busy = true ∧ ∃ f, fetch s = .stuck f ∧ step s = .fault f) ∨
    (s.port = none ∧ s.busy = false ∧ step s = .next s) := by
  unfold step
  cases hp : s.port with
  | some m =>
    cases hd : decodeCommand m with
    | ok i => exact .inl ⟨m, i, rfl, hd, by simp [hd]⟩
    | error e => exact .inr (.inl ⟨m, e, rfl, hd, by simp [hd]⟩)
  | none =>
    cases hb : s.busy with
    | true =>
      cases hf : fetch s with
      | instr i s1 => exact .inr (.inr (.inl ⟨rfl, rfl, i, s1, rfl, rfl⟩))
      | raised s1 => exact .inr (.inr (.inr (.inl ⟨rfl, rfl, s1, rfl, rfl⟩)))
      | stuck f => exact .inr (.inr (.inr (.inr (.inl ⟨rfl, rfl, f, rfl, rfl⟩))))
    | false => exact .inr (.inr (.inr (.inr (.inr ⟨rfl, rfl, by simp⟩))))

end Sys2Proof.Machine
end

