-- ==== Sys2Proof/Laws/PerInstr.lean ====
section
/-! SUPPORT. Statements about every instruction as syntax, one lemma for each constructor. -/

namespace Sys2Proof.Laws.BitBound
open Sys2Proof

/-- 40 R409, 30 R322: a well-formed element takes at least one bit and at most the bits its format allows; its extra
value fits its extra bits; its symbol is one of its alphabet. -/
def Statement (i : Instr) : Prop :=
  i.wf = true →
    match i.layout with
    | .fixed bits => 1 ≤ bits.length ∧ bits.length ≤ 32
    | .coded f sym cw xw x =>
      1 ≤ cw ∧ x < 2 ^ xw ∧
      match f with
      | .presym => sym < 19 ∧ cw + xw ≤ 14
      | .litlen => sym < 288 ∧ cw + xw ≤ 20
      | .offset => sym < 32 ∧ cw + xw ≤ 28
      | .blkhdr | .pcl | .cmd => False

/-- A codeword length of a lit/len or offset element. -/
theorem cw_range {cw : BitVec 4} (h : cwOk cw = true) : 1 ≤ cw.toNat ∧ cw.toNat ≤ 15 := by
  have := cw.isLt
  simp only [cwOk, decide_eq_true_eq] at h
  omega

/-- A codeword length of a precode element. -/
theorem preCw_range {cw : BitVec 4} (h : preCwOk cw = true) : 1 ≤ cw.toNat ∧ cw.toNat ≤ 7 := by
  simpa [preCwOk] using h

theorem blockStored (final : Bool) : Statement (.blockStored final) := by
  intro _
  simp [Instr.layout, fieldBits]
theorem blockFixed (final : Bool) : Statement (.blockFixed final) := by
  intro _
  simp [Instr.layout, fieldBits]
theorem blockDynamic (final : Bool) (hlit : BitVec 5) (hdist : BitVec 5) (hclen : BitVec 4) : Statement (.blockDynamic final hlit hdist hclen) := by
  intro _
  simp [Instr.layout, fieldBits]
theorem blockReserved (final : Bool) : Statement (.blockReserved final) := by
  intro _
  simp [Instr.layout, fieldBits]
theorem pcl (l : BitVec 3) : Statement (.pcl l) := by
  intro _
  simp [Instr.layout, fieldBits]
theorem cl (cw : BitVec 4) (n : BitVec 4) : Statement (.cl cw n) := by
  intro h
  have hc := preCw_range h
  have hx := n.isLt
  refine ⟨hc.1, by decide, ?_, ?_⟩ <;> omega
theorem clRepPrev (cw : BitVec 4) (x : BitVec 2) : Statement (.clRepPrev cw x) := by
  intro h
  have hc := preCw_range h
  have hx := x.isLt
  refine ⟨hc.1, hx, by decide, ?_⟩; omega
theorem clZero (cw : BitVec 4) (x : BitVec 3) : Statement (.clZero cw x) := by
  intro h
  have hc := preCw_range h
  have hx := x.isLt
  refine ⟨hc.1, hx, by decide, ?_⟩; omega
theorem clZeroLong (cw : BitVec 4) (x : BitVec 7) : Statement (.clZeroLong cw x) := by
  intro h
  have hc := preCw_range h
  have hx := x.isLt
  refine ⟨hc.1, hx, by decide, ?_⟩; omega
theorem lit (cw : BitVec 4) (b : Byte) : Statement (.lit cw b) := by
  intro h
  have hc := cw_range h
  have hx := b.isLt
  refine ⟨hc.1, by decide, ?_, ?_⟩ <;> omega
theorem eob (cw : BitVec 4) : Statement (.eob cw) := by
  intro h
  have hc := cw_range h
  refine ⟨hc.1, by decide, by decide, ?_⟩; omega
theorem len257 (cw : BitVec 4) : Statement (.len257 cw) := by
  intro h
  have hc := cw_range h
  refine ⟨hc.1, by decide, by decide, ?_⟩; omega
theorem len258 (cw : BitVec 4) : Statement (.len258 cw) := by
  intro h
  have hc := cw_range h
  refine ⟨hc.1, by decide, by decide, ?_⟩; omega
theorem len259 (cw : BitVec 4) : Statement (.len259 cw) := by
  intro h
  have hc := cw_range h
  refine ⟨hc.1, by decide, by decide, ?_⟩; omega
theorem len260 (cw : BitVec 4) : Statement (.len260 cw) := by
  intro h
  have hc := cw_range h
  refine ⟨hc.1, by decide, by decide, ?_⟩; omega
theorem len261 (cw : BitVec 4) : Statement (.len261 cw) := by
  intro h
  have hc := cw_range h
  refine ⟨hc.1, by decide, by decide, ?_⟩; omega
theorem len262 (cw : BitVec 4) : Statement (.len262 cw) := by
  intro h
  have hc := cw_range h
  refine ⟨hc.1, by decide, by decide, ?_⟩; omega
theorem len263 (cw : BitVec 4) : Statement (.len263 cw) := by
  intro h
  have hc := cw_range h
  refine ⟨hc.1, by decide, by decide, ?_⟩; omega
theorem len264 (cw : BitVec 4) : Statement (.len264 cw) := by
  intro h
  have hc := cw_range h
  refine ⟨hc.1, by decide, by decide, ?_⟩; omega
theorem len265 (cw : BitVec 4) (x : BitVec 1) : Statement (.len265 cw x) := by
  intro h
  have hc := cw_range h
  have hx := x.isLt
  refine ⟨hc.1, hx, by decide, ?_⟩; omega
theorem len266 (cw : BitVec 4) (x : BitVec 1) : Statement (.len266 cw x) := by
  intro h
  have hc := cw_range h
  have hx := x.isLt
  refine ⟨hc.1, hx, by decide, ?_⟩; omega
theorem len267 (cw : BitVec 4) (x : BitVec 1) : Statement (.len267 cw x) := by
  intro h
  have hc := cw_range h
  have hx := x.isLt
  refine ⟨hc.1, hx, by decide, ?_⟩; omega
theorem len268 (cw : BitVec 4) (x : BitVec 1) : Statement (.len268 cw x) := by
  intro h
  have hc := cw_range h
  have hx := x.isLt
  refine ⟨hc.1, hx, by decide, ?_⟩; omega
theorem len269 (cw : BitVec 4) (x : BitVec 2) : Statement (.len269 cw x) := by
  intro h
  have hc := cw_range h
  have hx := x.isLt
  refine ⟨hc.1, hx, by decide, ?_⟩; omega
theorem len270 (cw : BitVec 4) (x : BitVec 2) : Statement (.len270 cw x) := by
  intro h
  have hc := cw_range h
  have hx := x.isLt
  refine ⟨hc.1, hx, by decide, ?_⟩; omega
theorem len271 (cw : BitVec 4) (x : BitVec 2) : Statement (.len271 cw x) := by
  intro h
  have hc := cw_range h
  have hx := x.isLt
  refine ⟨hc.1, hx, by decide, ?_⟩; omega
theorem len272 (cw : BitVec 4) (x : BitVec 2) : Statement (.len272 cw x) := by
  intro h
  have hc := cw_range h
  have hx := x.isLt
  refine ⟨hc.1, hx, by decide, ?_⟩; omega
theorem len273 (cw : BitVec 4) (x : BitVec 3) : Statement (.len273 cw x) := by
  intro h
  have hc := cw_range h
  have hx := x.isLt
  refine ⟨hc.1, hx, by decide, ?_⟩; omega
theorem len274 (cw : BitVec 4) (x : BitVec 3) : Statement (.len274 cw x) := by
  intro h
  have hc := cw_range h
  have hx := x.isLt
  refine ⟨hc.1, hx, by decide, ?_⟩; omega
theorem len275 (cw : BitVec 4) (x : BitVec 3) : Statement (.len275 cw x) := by
  intro h
  have hc := cw_range h
  have hx := x.isLt
  refine ⟨hc.1, hx, by decide, ?_⟩; omega
theorem len276 (cw : BitVec 4) (x : BitVec 3) : Statement (.len276 cw x) := by
  intro h
  have hc := cw_range h
  have hx := x.isLt
  refine ⟨hc.1, hx, by decide, ?_⟩; omega
theorem len277 (cw : BitVec 4) (x : BitVec 4) : Statement (.len277 cw x) := by
  intro h
  have hc := cw_range h
  have hx := x.isLt
  refine ⟨hc.1, hx, by decide, ?_⟩; omega
theorem len278 (cw : BitVec 4) (x : BitVec 4) : Statement (.len278 cw x) := by
  intro h
  have hc := cw_range h
  have hx := x.isLt
  refine ⟨hc.1, hx, by decide, ?_⟩; omega
theorem len279 (cw : BitVec 4) (x : BitVec 4) : Statement (.len279 cw x) := by
  intro h
  have hc := cw_range h
  have hx := x.isLt
  refine ⟨hc.1, hx, by decide, ?_⟩; omega
theorem len280 (cw : BitVec 4) (x : BitVec 4) : Statement (.len280 cw x) := by
  intro h
  have hc := cw_range h
  have hx := x.isLt
  refine ⟨hc.1, hx, by decide, ?_⟩; omega
theorem len281 (cw : BitVec 4) (x : BitVec 5) : Statement (.len281 cw x) := by
  intro h
  have hc := cw_range h
  have hx := x.isLt
  refine ⟨hc.1, hx, by decide, ?_⟩; omega
theorem len282 (cw : BitVec 4) (x : BitVec 5) : Statement (.len282 cw x) := by
  intro h
  have hc := cw_range h
  have hx := x.isLt
  refine ⟨hc.1, hx, by decide, ?_⟩; omega
theorem len283 (cw : BitVec 4) (x : BitVec 5) : Statement (.len283 cw x) := by
  intro h
  have hc := cw_range h
  have hx := x.isLt
  refine ⟨hc.1, hx, by decide, ?_⟩; omega
theorem len284 (cw : BitVec 4) (x : BitVec 5) : Statement (.len284 cw x) := by
  intro h
  have hc := cw_range h
  have hx := x.isLt
  refine ⟨hc.1, hx, by decide, ?_⟩; omega
theorem len285 (cw : BitVec 4) : Statement (.len285 cw) := by
  intro h
  have hc := cw_range h
  refine ⟨hc.1, by decide, by decide, ?_⟩; omega
theorem len286 (cw : BitVec 4) : Statement (.len286 cw) := by
  intro h
  have hc := cw_range h
  refine ⟨hc.1, by decide, by decide, ?_⟩; omega
theorem len287 (cw : BitVec 4) : Statement (.len287 cw) := by
  intro h
  have hc := cw_range h
  refine ⟨hc.1, by decide, by decide, ?_⟩; omega
theorem dist0 (cw : BitVec 4) : Statement (.dist0 cw) := by
  intro h
  have hc := cw_range h
  refine ⟨hc.1, by decide, by decide, ?_⟩; omega
theorem dist1 (cw : BitVec 4) : Statement (.dist1 cw) := by
  intro h
  have hc := cw_range h
  refine ⟨hc.1, by decide, by decide, ?_⟩; omega
theorem dist2 (cw : BitVec 4) : Statement (.dist2 cw) := by
  intro h
  have hc := cw_range h
  refine ⟨hc.1, by decide, by decide, ?_⟩; omega
theorem dist3 (cw : BitVec 4) : Statement (.dist3 cw) := by
  intro h
  have hc := cw_range h
  refine ⟨hc.1, by decide, by decide, ?_⟩; omega
theorem dist4 (cw : BitVec 4) (y : BitVec 1) : Statement (.dist4 cw y) := by
  intro h
  have hc := cw_range h
  have hx := y.isLt
  refine ⟨hc.1, hx, by decide, ?_⟩; omega
theorem dist5 (cw : BitVec 4) (y : BitVec 1) : Statement (.dist5 cw y) := by
  intro h
  have hc := cw_range h
  have hx := y.isLt
  refine ⟨hc.1, hx, by decide, ?_⟩; omega
theorem dist6 (cw : BitVec 4) (y : BitVec 2) : Statement (.dist6 cw y) := by
  intro h
  have hc := cw_range h
  have hx := y.isLt
  refine ⟨hc.1, hx, by decide, ?_⟩; omega
theorem dist7 (cw : BitVec 4) (y : BitVec 2) : Statement (.dist7 cw y) := by
  intro h
  have hc := cw_range h
  have hx := y.isLt
  refine ⟨hc.1, hx, by decide, ?_⟩; omega
theorem dist8 (cw : BitVec 4) (y : BitVec 3) : Statement (.dist8 cw y) := by
  intro h
  have hc := cw_range h
  have hx := y.isLt
  refine ⟨hc.1, hx, by decide, ?_⟩; omega
theorem dist9 (cw : BitVec 4) (y : BitVec 3) : Statement (.dist9 cw y) := by
  intro h
  have hc := cw_range h
  have hx := y.isLt
  refine ⟨hc.1, hx, by decide, ?_⟩; omega
theorem dist10 (cw : BitVec 4) (y : BitVec 4) : Statement (.dist10 cw y) := by
  intro h
  have hc := cw_range h
  have hx := y.isLt
  refine ⟨hc.1, hx, by decide, ?_⟩; omega
theorem dist11 (cw : BitVec 4) (y : BitVec 4) : Statement (.dist11 cw y) := by
  intro h
  have hc := cw_range h
  have hx := y.isLt
  refine ⟨hc.1, hx, by decide, ?_⟩; omega
theorem dist12 (cw : BitVec 4) (y : BitVec 5) : Statement (.dist12 cw y) := by
  intro h
  have hc := cw_range h
  have hx := y.isLt
  refine ⟨hc.1, hx, by decide, ?_⟩; omega
theorem dist13 (cw : BitVec 4) (y : BitVec 5) : Statement (.dist13 cw y) := by
  intro h
  have hc := cw_range h
  have hx := y.isLt
  refine ⟨hc.1, hx, by decide, ?_⟩; omega
theorem dist14 (cw : BitVec 4) (y : BitVec 6) : Statement (.dist14 cw y) := by
  intro h
  have hc := cw_range h
  have hx := y.isLt
  refine ⟨hc.1, hx, by decide, ?_⟩; omega
theorem dist15 (cw : BitVec 4) (y : BitVec 6) : Statement (.dist15 cw y) := by
  intro h
  have hc := cw_range h
  have hx := y.isLt
  refine ⟨hc.1, hx, by decide, ?_⟩; omega
theorem dist16 (cw : BitVec 4) (y : BitVec 7) : Statement (.dist16 cw y) := by
  intro h
  have hc := cw_range h
  have hx := y.isLt
  refine ⟨hc.1, hx, by decide, ?_⟩; omega
theorem dist17 (cw : BitVec 4) (y : BitVec 7) : Statement (.dist17 cw y) := by
  intro h
  have hc := cw_range h
  have hx := y.isLt
  refine ⟨hc.1, hx, by decide, ?_⟩; omega
theorem dist18 (cw : BitVec 4) (y : BitVec 8) : Statement (.dist18 cw y) := by
  intro h
  have hc := cw_range h
  have hx := y.isLt
  refine ⟨hc.1, hx, by decide, ?_⟩; omega
theorem dist19 (cw : BitVec 4) (y : BitVec 8) : Statement (.dist19 cw y) := by
  intro h
  have hc := cw_range h
  have hx := y.isLt
  refine ⟨hc.1, hx, by decide, ?_⟩; omega
theorem dist20 (cw : BitVec 4) (y : BitVec 9) : Statement (.dist20 cw y) := by
  intro h
  have hc := cw_range h
  have hx := y.isLt
  refine ⟨hc.1, hx, by decide, ?_⟩; omega
theorem dist21 (cw : BitVec 4) (y : BitVec 9) : Statement (.dist21 cw y) := by
  intro h
  have hc := cw_range h
  have hx := y.isLt
  refine ⟨hc.1, hx, by decide, ?_⟩; omega
theorem dist22 (cw : BitVec 4) (y : BitVec 10) : Statement (.dist22 cw y) := by
  intro h
  have hc := cw_range h
  have hx := y.isLt
  refine ⟨hc.1, hx, by decide, ?_⟩; omega
theorem dist23 (cw : BitVec 4) (y : BitVec 10) : Statement (.dist23 cw y) := by
  intro h
  have hc := cw_range h
  have hx := y.isLt
  refine ⟨hc.1, hx, by decide, ?_⟩; omega
theorem dist24 (cw : BitVec 4) (y : BitVec 11) : Statement (.dist24 cw y) := by
  intro h
  have hc := cw_range h
  have hx := y.isLt
  refine ⟨hc.1, hx, by decide, ?_⟩; omega
theorem dist25 (cw : BitVec 4) (y : BitVec 11) : Statement (.dist25 cw y) := by
  intro h
  have hc := cw_range h
  have hx := y.isLt
  refine ⟨hc.1, hx, by decide, ?_⟩; omega
theorem dist26 (cw : BitVec 4) (y : BitVec 12) : Statement (.dist26 cw y) := by
  intro h
  have hc := cw_range h
  have hx := y.isLt
  refine ⟨hc.1, hx, by decide, ?_⟩; omega
theorem dist27 (cw : BitVec 4) (y : BitVec 12) : Statement (.dist27 cw y) := by
  intro h
  have hc := cw_range h
  have hx := y.isLt
  refine ⟨hc.1, hx, by decide, ?_⟩; omega
theorem dist28 (cw : BitVec 4) (y : BitVec 13) : Statement (.dist28 cw y) := by
  intro h
  have hc := cw_range h
  have hx := y.isLt
  refine ⟨hc.1, hx, by decide, ?_⟩; omega
theorem dist29 (cw : BitVec 4) (y : BitVec 13) : Statement (.dist29 cw y) := by
  intro h
  have hc := cw_range h
  have hx := y.isLt
  refine ⟨hc.1, hx, by decide, ?_⟩; omega
theorem dist30 (cw : BitVec 4) : Statement (.dist30 cw) := by
  intro h
  have hc := cw_range h
  refine ⟨hc.1, by decide, by decide, ?_⟩; omega
theorem dist31 (cw : BitVec 4) : Statement (.dist31 cw) := by
  intro h
  have hc := cw_range h
  refine ⟨hc.1, by decide, by decide, ?_⟩; omega
theorem cmdReset (flags : BitVec 2) : Statement (.cmdReset flags) := by
  intro _
  simp [Instr.layout, fieldBits]
theorem cmdDecompress (wantIn : Bool) (wantOut : Bool) (inBytes : List Byte) (outN : Count) : Statement (.cmdDecompress wantIn wantOut inBytes outN) := by
  intro _
  simp [Instr.layout, fieldBits]
theorem cmdReserved2 (rest : BitVec 30) : Statement (.cmdReserved2 rest) := by
  intro _
  simp [Instr.layout, fieldBits]
theorem cmdReserved3 (rest : BitVec 30) : Statement (.cmdReserved3 rest) := by
  intro _
  simp [Instr.layout, fieldBits]

end Sys2Proof.Laws.BitBound
end

