-- ==== Sys2Proof/Tests/Slice0.lean ====
section
/-! SUPPORT. Tests: the checks of WellFormed, words decoded, one step at a time with results taken from the spec's
examples, and for each statement with hypotheses a concrete state and operands that meet them. -/

namespace Sys2Proof.Tests
open Sys2Proof Sys2Proof.Machine

-- One theorem after the other: each kernel evaluation waits for the ones before it anyway.
set_option Elab.async false

/-! ### Helpers -/

/-- A command that has just been accepted on a block fresh from reset. -/
def started (bytes : List Byte) (outN : Count) : State := State.reset.accept true true bytes outN

/-- The state after an outcome, or reset. -/
def next (o : Out) : State :=
  match o with
  | .next t    => t
  | .fault _   => State.reset
  | .refused _ => State.reset

/-- An outcome is a next state with a property. -/
def after (o : Out) (p : State → Bool) : Bool :=
  match o with
  | .next t    => p t
  | .fault _   => false
  | .refused _ => false

/-- The entries of a build, or none. -/
def built (b : Except BuildError (List Entry)) : List Entry :=
  match b with
  | .ok t    => t
  | .error _ => []

/-- In the body of a fixed block over the given bytes, at cursor `c`: the fixed tables are loaded. -/
def inFixed (bytes : List Byte) (c : Nat) (outN : Count) : State :=
  { started bytes outN with
    c := c, final := true, phase := .body, staticCodesLoaded := true, litlenTablebits := 9,
    offsetTable := overlay (built (buildOffsetTable fixedOffsetLens)) (List.replicate 402 ⟨0, 0⟩),
    litlenTable := overlay (built (buildLitlenTable fixedLitlenLens)) (List.replicate 2342 ⟨0, 0⟩) }

/-- That state with the bytes "ab" written, and a match of length `n` waiting for its offset. -/
def inMatch (bytes : List Byte) (n : Nat) (outN : Count) : State :=
  { inFixed bytes 0 outN with
    out := [(0, 0x61), (1, 0x62)], outNext := 2, matchLen := n, phase := .offset }

/-- In the code-length loop, at index `i` of 257 + 1 lengths, with the table of the precode {0: 1, 18: 1}. -/
def inLens (bytes : List Byte) (i : Nat) : State :=
  { started bytes 0 with
    phase := .codeLen, index := i, nlit := 257, noff := 1, ncl := 4,
    precodeLens := [1, 0, 0, 0, 0, 0, 0, 0, 0, 0, 0, 0, 0, 0, 0, 0, 0, 0, 1],
    precodeTable := (List.replicate 64 [(⟨0x00000101, 0⟩ : Entry), ⟨0x00120101, 18⟩]).flatten }

/-! ### WellFormed: an ill-formed term for each check -/

theorem test_wf_refuses_empty_codeword : (Instr.lit 0 0x41).wf = false := by decide
theorem test_wf_refuses_empty_offset_codeword : (Instr.dist4 0 1).wf = false := by decide
theorem test_wf_refuses_empty_precodeword : (Instr.cl 0 3).wf = false := by decide
theorem test_wf_refuses_long_precodeword : (Instr.clZeroLong 8 0).wf = false := by decide
theorem test_wf_refuses_long_input (bytes : List Byte) (h : bytes.length = 2 ^ 64) :
    (Instr.cmdDecompress false false bytes 0).wf = false := by
  simp [Instr.wf, h]
theorem test_wf_accepts : (Instr.lit 15 0).wf = true ∧ (Instr.cl 7 15).wf = true := by decide

/-! ### Decoding, each constructor from a word of the spec's encoding -/

/-- 30 R312: bit 0 is BFINAL, bits 2:1 BTYPE; 30 R314: HLIT, HDIST, HCLEN behind it. 0x54 0xC5 0x01 is
0b0_1110_00001_00010_10_0 from the top: BFINAL 0, BTYPE 2, HLIT 2, HDIST 1... written out LSB first. -/
theorem test_decode_block_headers :
    decodeBlockHeader [0b000] 0 = .blockStored false ∧ decodeBlockHeader [0b001] 0 = .blockStored true ∧
    decodeBlockHeader [0b010] 0 = .blockFixed false ∧ decodeBlockHeader [0b011] 0 = .blockFixed true ∧
    decodeBlockHeader [0b110] 0 = .blockReserved false ∧ decodeBlockHeader [0b111] 0 = .blockReserved true ∧
    decodeBlockHeader (packBits ([false] ++ [false, true] ++ [true, false, true, true, false] ++
      [true, true, false, false, true] ++ [false, true, true, true])) 0 = .blockDynamic false 13 19 14 := by
  decide

/-- 30 R314: a 3-bit field, first bit as bit 0. -/
theorem test_decode_pcl : decodePcl [0b11000000, 0b1] 6 = .pcl 7 ∧ decodePcl [0b00100000] 5 = .pcl 1 := by decide

/-- 30 R306, R315: entries of symbols 5, 16, 17, 18 with codewords of 2, 3, 3 and 3 bits; the extra bits stand behind
the codeword. -/
theorem test_decode_presyms :
    decodePresym ⟨0x00050202, 5⟩ [0xFF] 0 = .ok (.cl 2 5) ∧
    decodePresym ⟨0x00100303, 16⟩ [0b00010111] 0 = .ok (.clRepPrev 3 2) ∧
    decodePresym ⟨0x00110303, 17⟩ [0b00110111] 0 = .ok (.clZero 3 6) ∧
    decodePresym ⟨0x00120303, 18⟩ [0b11111111, 0b10] 0 = .ok (.clZeroLong 3 95) ∧
    decodePresym ⟨0x00130303, 19⟩ [0xFF] 0 = .error .noPrecodeSymbol := by
  decide

/-- 30 R304: a literal and the end of a block. -/
theorem test_decode_lit_eob :
    decodeLitlen ⟨0x80500808, 0x50⟩ [0x00] 0 = .ok (.lit 8 0x50) ∧
    decodeLitlen ⟨0x0000A707, 256⟩ [0x00] 0 = .ok (.eob 7) := by
  decide

/-- 30 R303: entries that name no symbol are refused by name. -/
theorem test_decode_refuses_malformed :
    decodeLitlen ⟨0, 0⟩ [0x00] 0 = .error .noLitlenSymbol ∧ decodeLitlen ⟨0x00008101, 285⟩ [0x00] 0 = .error .noLitlenSymbol ∧
    decodeOffset ⟨0x00008101, 3⟩ [0x00] 0 = .error .noOffsetSymbol ∧
    decodeOffset ⟨0x00010101, 32⟩ [0x00] 0 = .error .noOffsetSymbol := by
  decide

/-- The fixed codewords that 43 R620 to R650 write out, with extra bits chosen by hand: codeword, its length, extra value,
extra bits, instruction. -/
def lengthWords : List (Nat × Nat × Nat × Nat × Instr) :=
  [(0b0000001, 7, 0, 0, .len257 7),
   (0b0000010, 7, 0, 0, .len258 7),
   (0b0000011, 7, 0, 0, .len259 7),
   (0b0000100, 7, 0, 0, .len260 7),
   (0b0000101, 7, 0, 0, .len261 7),
   (0b0000110, 7, 0, 0, .len262 7),
   (0b0000111, 7, 0, 0, .len263 7),
   (0b0001000, 7, 0, 0, .len264 7),
   (0b0001001, 7, 1, 1, .len265 7 1),
   (0b0001010, 7, 1, 1, .len266 7 1),
   (0b0001011, 7, 1, 1, .len267 7 1),
   (0b0001100, 7, 1, 1, .len268 7 1),
   (0b0001101, 7, 2, 2, .len269 7 2),
   (0b0001110, 7, 3, 2, .len270 7 3),
   (0b0001111, 7, 2, 2, .len271 7 2),
   (0b0010000, 7, 3, 2, .len272 7 3)] ++
  [(0b0010001, 7, 4, 3, .len273 7 4),
   (0b0010010, 7, 7, 3, .len274 7 7),
   (0b0010011, 7, 4, 3, .len275 7 4),
   (0b0010100, 7, 7, 3, .len276 7 7),
   (0b0010101, 7, 8, 4, .len277 7 8),
   (0b0010110, 7, 15, 4, .len278 7 15),
   (0b0010111, 7, 8, 4, .len279 7 8),
   (0b11000000, 8, 15, 4, .len280 8 15),
   (0b11000001, 8, 16, 5, .len281 8 16),
   (0b11000010, 8, 31, 5, .len282 8 31),
   (0b11000011, 8, 16, 5, .len283 8 16),
   (0b11000100, 8, 31, 5, .len284 8 31),
   (0b11000101, 8, 0, 0, .len285 8),
   (0b11000110, 8, 0, 0, .len286 8),
   (0b11000111, 8, 0, 0, .len287 8)]

/-- The fixed codewords that 43 R660 to R691 write out, as above. -/
def offsetWords : List (Nat × Nat × Nat × Nat × Instr) :=
  [(0b00000, 5, 0, 0, .dist0 5),
   (0b00001, 5, 0, 0, .dist1 5),
   (0b00010, 5, 0, 0, .dist2 5),
   (0b00011, 5, 0, 0, .dist3 5),
   (0b00100, 5, 1, 1, .dist4 5 1),
   (0b00101, 5, 1, 1, .dist5 5 1),
   (0b00110, 5, 2, 2, .dist6 5 2),
   (0b00111, 5, 2, 2, .dist7 5 2),
   (0b01000, 5, 6, 3, .dist8 5 6),
   (0b01001, 5, 6, 3, .dist9 5 6),
   (0b01010, 5, 14, 4, .dist10 5 14),
   (0b01011, 5, 14, 4, .dist11 5 14),
   (0b01100, 5, 30, 5, .dist12 5 30),
   (0b01101, 5, 30, 5, .dist13 5 30),
   (0b01110, 5, 62, 6, .dist14 5 62),
   (0b01111, 5, 62, 6, .dist15 5 62)] ++
  [(0b10000, 5, 126, 7, .dist16 5 126),
   (0b10001, 5, 126, 7, .dist17 5 126),
   (0b10010, 5, 254, 8, .dist18 5 254),
   (0b10011, 5, 254, 8, .dist19 5 254),
   (0b10100, 5, 510, 9, .dist20 5 510),
   (0b10101, 5, 510, 9, .dist21 5 510),
   (0b10110, 5, 1022, 10, .dist22 5 1022),
   (0b10111, 5, 1022, 10, .dist23 5 1022),
   (0b11000, 5, 2046, 11, .dist24 5 2046),
   (0b11001, 5, 2046, 11, .dist25 5 2046),
   (0b11010, 5, 4094, 12, .dist26 5 4094),
   (0b11011, 5, 4094, 12, .dist27 5 4094),
   (0b11100, 5, 8190, 13, .dist28 5 8190),
   (0b11101, 5, 8190, 13, .dist29 5 8190),
   (0b11110, 5, 0, 0, .dist30 5),
   (0b11111, 5, 0, 0, .dist31 5)]

/-- The stream of a row: the codeword, MSB first, then the extra value, LSB first (30 R301, R302). -/
def rowBytes (w : Nat × Nat × Nat × Nat × Instr) : List Byte :=
  packBits (codewordBits w.2.1 w.1 ++ fieldBits w.2.2.2.1 w.2.2.1)

/-- The element that the fixed tables find in a row's stream. -/
def fetchesRow (s : State) (w : Nat × Nat × Nat × Nat × Instr) : Bool :=
  match fetch { s with inBuf := rowBytes w } with
  | .instr i _ => decide (i = w.2.2.2.2)
  | .raised _  => false
  | .stuck _   => false

theorem test_decode_length_symbols : lengthWords.all (fetchesRow (inFixed [] 0 0)) = true := by decide +kernel

theorem test_decode_offset_symbols : offsetWords.all (fetchesRow (inMatch [] 3 10)) = true := by decide +kernel

/-- 30 R316: op in bits 1:0, the two flags in bits 2 and 3, the rest 0. -/
theorem test_decode_commands :
    decodeCommand ⟨0x00000004, [], 0⟩ = .ok (.cmdReset 1) ∧
    decodeCommand ⟨0x00000005, [0x03], 9⟩ = .ok (.cmdDecompress true false [0x03] 9) ∧
    decodeCommand ⟨0x00000009, [0x03], 9⟩ = .ok (.cmdDecompress false true [0x03] 9) ∧
    decodeCommand ⟨0xFFFFFFFE, [], 0⟩ = .ok (.cmdReserved2 0x3FFFFFFF) ∧
    decodeCommand ⟨0x00000007, [], 0⟩ = .ok (.cmdReserved3 1) ∧
    decodeCommand ⟨0x80000000, [], 0⟩ = .error .reservedCommandBits ∧
    decodeCommand ⟨0x00000011, [], 0⟩ = .error .reservedCommandBits := by
  decide

/-- The host's reading of the opcode table: rows of each format, by bits and match value. -/
theorem test_decode_table_words :
    decodeTableWord 8 2 = some (.blockFixed false) ∧ decodeTableWord 8 17 = some (.clZero 1 0) ∧
    decodeTableWord 8 29 = some (.dist29 1 0) ∧ decodeTableWord 16 65 = some (.lit 1 65) ∧
    decodeTableWord 16 284 = some (.len284 1 0) ∧ decodeTableWord 32 1 = some (.cmdDecompress false false [] 0) := by
  decide +kernel

theorem test_fetch_word_runs :
    after (step (State.reset.withFetchWord 16 65)) (fun t => t.result == .insufficientSpace && t.c == 1) = true ∧
    after (step (State.reset.withFetchWord 32 2)) (fun t => t.refused) = true := by
  decide +kernel

/-! ### The bit reader -/

/-- 40 R402: IN = 73 04 00, C = 3, peek(8) = 0x8E. -/
theorem test_peek_example : ({ started [0x73, 0x04, 0x00] 1 with c := 3 } : State).peek 8 = 0x8E := by decide

/-- 40 R403: IN = 73 04, C = 11: an EOB codeword of 7 bits is BAD_DATA. -/
theorem test_consume_overread :
    after (exec (.eob 7) { started [0x73, 0x04] 1 with c := 11 }) (fun t => t.result == .badData && !t.busy) = true := by
  decide +kernel

/-- 40 R405: C = 3 becomes 8; 8 stays. -/
theorem test_align : ({ started [0, 0] 0 with c := 3 } : State).alignToByte.c = 8 ∧
    ({ started [0, 0] 0 with c := 8 } : State).alignToByte.c = 8 := by decide

/-- 40 R421: a fast refill of an empty buffer takes 7 bytes; R422: near the end zeros are counted. -/
theorem test_refill :
    (Datapath.zero.refill [1, 2, 3, 4, 5, 6, 7, 8, 9]).inNext = 7 ∧
    (Datapath.zero.refill [1, 2, 3, 4, 5, 6, 7, 8, 9]).bitsleft = 56 ∧
    (Datapath.zero.refill [0x03, 0x00]).inNext = 2 ∧ (Datapath.zero.refill [0x03, 0x00]).overreadCount = 5 := by
  decide

/-- 40 R402's example on the registers (R424): 73 04 00 loaded by the slow refill, three bits consumed. -/
theorem test_datapath_peek : (((Datapath.zero.refill [0x73, 0x04, 0x00]).consume 3).peek 8) = 0x8E := by decide +kernel

/-! ### The table builder -/

/-- 41 R454: {1,1,1} is overfull; R456: [1,2] and [0,0,2] are incomplete, an empty offset code is 0x00010101. -/
theorem test_build_checks :
    buildOffsetTable [1, 1, 1] = .error .overfull ∧ buildOffsetTable [1, 2] = .error .incomplete ∧
    buildOffsetTable [0, 0, 2] = .error .incomplete ∧
    (match buildOffsetTable [0, 0] with
      | .ok t    => decide (t.length = 256) && t.all fun e => e.word == 0x00010101
      | .error _ => false) = true := by
  decide +kernel

/-- 41 R459's example, and R468 on the precode of R470: 1 → 0, 0 → 10, 2 → 110, 3 → 111. -/
theorem test_canonical_code :
    advanceCode 3 8 = 7 ∧ ([0, 1, 2, 3].map (canonCode [2, 1, 3, 3])) = [0b10, 0b0, 0b110, 0b111] := by
  decide

/-! ### Block headers, one step each -/

/-- 42 R504: 01 05 00 FA FF "Hello": C = 80 and five bytes out. -/
theorem test_stored_block :
    after (step (started [0x01, 0x05, 0x00, 0xFA, 0xFF, 0x48, 0x65, 0x6C, 0x6C, 0x6F] 5))
      (fun t => t.c == 80 && t.out == [(0, 0x48), (1, 0x65), (2, 0x6C), (3, 0x6C), (4, 0x6F)] &&
        t.result == .success && t.actualIn == 10 && t.actualOut == 5 && !t.busy) = true := by
  decide +kernel

/-- 42 R507 to R509: LEN/NLEN, data truncated, no space. -/
theorem test_stored_block_errors :
    after (step (started [0x01, 0x05, 0x00, 0x00, 0x00, 0x48] 5)) (fun t => t.result == .badData) = true ∧
    after (step (started [0x01, 0x05, 0x00, 0xFA, 0xFF, 0x48, 0x65, 0x6C] 5)) (fun t => t.result == .badData) = true ∧
    after (step (started [0x01, 0x05, 0x00, 0xFA, 0xFF, 0x48, 0x65, 0x6C, 0x6C, 0x6F] 4))
      (fun t => t.result == .insufficientSpace && t.out == []) = true := by
  decide +kernel

/-- 42 R510: 03 00: C = 3, the flag 1, litlen_tablebits 9; 41 R470: litlen_table[142] is 'A'. -/
theorem test_fixed_block :
    after (step (started [0x03, 0x00] 0))
      (fun t => t.c == 3 && t.staticCodesLoaded && t.litlenTablebits == 9 && t.phase == .body && t.nlit == 288 &&
        (t.litlenTable.getD 142 default).word == 0x80410808 && t.lens.getD 300 0 == 5) = true := by
  decide +kernel

/-- 42 R519: 15 C1 37 01: HLIT 2, HDIST 1, HCLEN 14. -/
theorem test_dynamic_block :
    after (step { started [0x15, 0xC1, 0x37, 0x01] 0 with staticCodesLoaded := true })
      (fun t => t.c == 17 && t.nlit == 259 && t.noff == 2 && t.ncl == 18 && !t.staticCodesLoaded &&
        t.phase == .precodeLen && t.final) = true := by
  decide +kernel

/-- 42 R503: 07 00 is BAD_DATA with C = 3. -/
theorem test_reserved_block :
    after (step (started [0x07, 0x00] 0)) (fun t => t.result == .badData && t.c == 3 && !t.busy) = true := by
  decide +kernel

/-- 42 R520: with HCLEN = 0 the PCLs set symbols 16, 17, 18 and 0, in that order; the fourth also builds. -/
theorem test_pcl :
    after (exec (.pcl 1) { started [0xFF, 0xFF] 0 with phase := .precodeLen, ncl := 4, index := 2 })
      (fun t => t.precodeLens.getD 18 0 == 1 && t.index == 3 && t.phase == .precodeLen) = true ∧
    after (exec (.pcl 1) { started [0xFF, 0xFF] 0 with
        phase := .precodeLen, ncl := 4, index := 3, precodeLens := List.replicate 18 3 ++ [1] })
      (fun t => t.precodeLens == [1, 0, 0, 0, 0, 0, 0, 0, 0, 0, 0, 0, 0, 0, 0, 0, 3, 3, 1] && t.result == .badData) = true := by
  decide +kernel

/-! ### Code lengths -/

/-- 42 R523: CL 3 sets lens[97] = 3. R524: CL_REP_PREV then sets lens[98..100] = 3. -/
theorem test_cl_rep :
    after (exec (.cl 3 3) (inLens [0, 0, 0] 97)) (fun t => t.lens.getD 97 0 == 3 && t.index == 98 && t.c == 3) = true ∧
    after (exec (.clRepPrev 3 0) { inLens [0, 0, 0] 98 with lens := List.replicate 97 0 ++ [3] ++ List.replicate 359 0 })
      (fun t => t.lens.getD 98 0 == 3 && t.lens.getD 100 0 == 3 && t.lens.getD 101 0 == 0 && t.index == 101 && t.c == 5) = true := by
  decide +kernel

/-- 42 R524: symbol 16 at index 0, before its extra bits are read. -/
theorem test_rep_at_zero :
    after (exec (.clRepPrev 3 0) { inLens [0] 0 with c := 5 }) (fun t => t.result == .badData && t.c == 8) = true := by
  decide +kernel

/-- 42 R525: CL_ZERO 10 at 239 sets lens[239..248] = 0. R526: CL_ZERO_LONG 97 at 0 sets lens[0..96] = 0. -/
theorem test_zero_runs :
    after (exec (.clZero 3 7) { inLens [0, 0] 239 with lens := List.replicate 457 9 })
      (fun t => t.lens.getD 238 0 == 9 && t.lens.getD 239 9 == 0 && t.lens.getD 248 9 == 0 && t.lens.getD 249 0 == 9 &&
        t.index == 249) = true ∧
    after (exec (.clZeroLong 3 86) { inLens [0, 0] 0 with lens := List.replicate 457 9 })
      (fun t => t.lens.getD 96 9 == 0 && t.lens.getD 97 0 == 9 && t.index == 97 && t.c == 10) = true := by
  decide +kernel

/-- 42 R527: a final CL_ZERO_LONG 11 at total − 1 is BAD_DATA. R528: a run of 138 there ends at 395 of 457. -/
theorem test_length_overrun :
    after (exec (.clZeroLong 1 0) (inLens [0, 0] 257)) (fun t => t.result == .badData && t.index == 268) = true := by
  decide +kernel

/-- 42 R531, 41 R456: all lengths 0 give two empty codes, and the body follows with T = 1. -/
theorem test_last_length :
    after (exec (.cl 1 0) (inLens [0] 257))
      (fun t => t.phase == .body && t.litlenTablebits == 1 && (t.litlenTable.getD 1 default).word == 0x80000101 &&
        (t.offsetTable.getD 255 default).word == 0x00010101) = true := by
  decide +kernel

/-! ### The body -/

/-- 43 R601: IN = 73 04 00: LIT 0x41 from C = 3 to 11. -/
theorem test_literal :
    after (step (inFixed [0x73, 0x04, 0x00] 3 1)) (fun t => t.out == [(0, 0x41)] && t.c == 11 && t.outNext == 1) = true := by
  decide +kernel

/-- 43 R601: with OUT full the consume comes first. -/
theorem test_literal_full :
    after (exec (.lit 8 0x41) { started [0x73, 0x04, 0x00] 0 with c := 3 }) (fun t => t.result == .insufficientSpace && t.c == 11) = true := by
  decide +kernel

/-- 43 R602: IN = 03 00: EOB consumes bits 3 to 9; 44 R706: actual_in = 2. -/
theorem test_end_of_block :
    after (exec (.eob 7) { started [0x03, 0x00] 0 with c := 3, final := true })
      (fun t => t.c == 10 && t.actualIn == 2 && t.actualInValid && t.result == .success && !t.busy) = true := by
  decide +kernel

/-- 43 R628: LEN_265 1 is 12; R647: LEN_284 31 is 258; R648: LEN_285 is 258. -/
theorem test_lengths :
    after (exec (.len265 7 1) (started [0, 0] 0)) (fun t => t.matchLen == 12 && t.c == 8 && t.phase == .offset) = true ∧
    after (exec (.len284 8 31) (started [0, 0] 0)) (fun t => t.matchLen == 258 && t.c == 13) = true ∧
    after (exec (.len285 8) (started [0, 0] 0)) (fun t => t.matchLen == 258 && t.c == 8) = true := by
  decide +kernel

/-- 43 R649, R690: reserved symbols, no bit consumed. -/
theorem test_reserved_symbols :
    after (exec (.len286 8) (started [0, 0] 0)) (fun t => t.result == .badData && t.c == 0) = true ∧
    after (exec (.dist30 5) (inMatch [0, 0] 3 9)) (fun t => t.result == .badData && t.c == 0) = true := by
  decide +kernel

/-- 43 R613: after "ab", copy(6, 2) writes "ababab". -/
theorem test_copy :
    after (exec (.dist1 5) (inMatch [0, 0] 6 8))
      (fun t => t.out == [(0, 0x61), (1, 0x62), (2, 0x61), (3, 0x62), (4, 0x61), (5, 0x62), (6, 0x61), (7, 0x62)] &&
        t.outNext == 8 && t.phase == .body) = true := by
  decide +kernel

/-- 43 R609: offset 3 from out_next = 2. R612: no room, out_next stays. -/
theorem test_match_checks :
    after (exec (.dist2 5) (inMatch [0, 0] 3 9)) (fun t => t.result == .badData && t.outNext == 2) = true ∧
    after (exec (.dist1 5) (inMatch [0, 0] 6 7)) (fun t => t.result == .insufficientSpace && t.outNext == 2) = true := by
  decide +kernel

/-- 43 R689: DIST_29 8191 is the longest offset, 32768: too far here. -/
theorem test_longest_offset :
    after (exec (.dist29 5 8191) (inMatch [0, 0, 0] 3 9)) (fun t => t.result == .badData && t.c == 18) = true := by
  decide +kernel

/-! ### Commands -/

/-- 44 R701: RESET clears the flag. R702: 0x2 and 0x11 are refused. R703: 0xD starts a command. -/
theorem test_commands :
    after (step { State.reset with staticCodesLoaded := true, refused := true, port := some ⟨0, [], 0⟩ })
      (fun t => !t.staticCodesLoaded && !t.refused && t.port == none) = true ∧
    after (step (State.reset.submit ⟨2, [], 0⟩)) (fun t => t.refused && !t.busy) = true ∧
    after (step (State.reset.submit ⟨0x11, [], 0⟩)) (fun t => t.refused && !t.busy) = true ∧
    after (step (State.reset.submit ⟨3, [], 0⟩)) (fun t => t.refused && !t.busy) = true ∧
    after (step (State.reset.submit ⟨0xD, [0x03, 0x00], 4⟩))
      (fun t => t.busy && t.inN == 2 && t.outN == 4 && t.wantIn && t.wantOut && t.c == 0) = true := by
  decide +kernel

/-- 44 R702: a RESET while busy is refused and does not abort. -/
theorem test_refused_while_busy :
    after (step ((started [0x03, 0x00] 0).submit ⟨0, [], 0⟩)) (fun t => t.refused && t.busy && t.port == none) = true := by
  decide +kernel

/-- 44 R708: with a byte of room and no want_actual_out: SHORT_OUTPUT; R707: with it, SUCCESS and actual_out = 1. -/
theorem test_finish :
    after (exec (.eob 7) { started [0x73, 0x04, 0x00] 2 with c := 11, outNext := 1, final := true, wantOut := false })
      (fun t => t.result == .shortOutput && t.actualInValid && t.actualIn == 3 && !t.actualOutValid) = true ∧
    after (exec (.eob 7) { started [0x73, 0x04, 0x00] 2 with c := 11, outNext := 1, final := true })
      (fun t => t.result == .success && t.actualOutValid && t.actualOut == 1) = true := by
  decide +kernel

/-- 30 R324: length 258 is LEN_285, not LEN_284 31. -/
theorem test_match_expansion :
    matchInstrs fixedCodes 258 32768 = some (.len285 8, .dist29 5 8191) ∧
    matchInstrs fixedCodes 3 1 = some (.len257 7, .dist0 5) ∧ matchInstrs fixedCodes 2 1 = none := by
  decide +kernel


/-! ### Witnesses: for each statement with hypotheses, a concrete state and operands that meet them -/

/-- From the Bool test of an outcome to its next state. -/
theorem next_of_after {o : Out} {p : State → Bool} (h : after o p = true) : ∃ t, o = .next t ∧ p t = true := by
  cases o with
  | next t    => exact ⟨t, rfl, h⟩
  | fault f   => cases h
  | refused r => cases h

/-- A small body: a lit/len code of 'A' and the end of block, a pointer to them, one offset. -/
def inBody (bytes : List Byte) (c : Nat) : State :=
  { started bytes 4 with
    c := c, phase := .body, litlenTablebits := 1, litlenTable := [⟨0x80410101, 65⟩, ⟨0x0000A101, 256⟩] }

/-- A body whose lit/len root (T = 1) points to a subtable of one more bit. -/
def inSubBody (bytes : List Byte) (c : Nat) : State :=
  { inBody bytes c with
    litlenTable := [⟨0x0002C101, 0⟩, ⟨0x0002C101, 0⟩, ⟨0x80410101, 65⟩, ⟨0x0000A101, 256⟩] }

/-- An offset symbol wanted, all entries offset 1; and the same behind a pointer (T = 8) to one more bit. -/
def inOffset (bytes : List Byte) (c : Nat) : State :=
  { started bytes 4 with c := c, phase := .offset, matchLen := 3, offsetTable := List.replicate 256 ⟨0x00010101, 0⟩ }

def inSubOffset (bytes : List Byte) (c : Nat) : State :=
  { inOffset bytes c with
    offsetTable := List.replicate 256 ⟨0x0100C108, 0⟩ ++ [⟨0x00010101, 0⟩, ⟨0x00020101, 1⟩] }

theorem witness_StepRunsDecodedElement :
    ((started [0x03] 0).port = none ∧ (started [0x03] 0).busy = true ∧ (started [0x03] 0).phase = .blockHeader) ∧
    (let s : State := { started [0x03] 0 with phase := .precodeLen }
     s.port = none ∧ s.busy = true ∧ s.phase = .precodeLen) ∧
    (let s := inLens [0xFF, 0xFF] 3
     s.port = none ∧ s.busy = true ∧ s.phase = .codeLen ∧
      decodePresym (s.precodeTable.getD (s.peek 7) default) s.inBuf s.c = .ok (.clZeroLong 1 127)) ∧
    (let s := inBody [0x00] 0
     s.port = none ∧ s.busy = true ∧ s.phase = .body ∧
      (s.litlenTable.getD (s.peek s.litlenTablebits.toNat) default).isPointer = false ∧
      decodeLitlen (s.litlenTable.getD (s.peek s.litlenTablebits.toNat) default) s.inBuf s.c = .ok (.lit 1 65)) ∧
    (let s := inOffset [0x00] 0
     s.port = none ∧ s.busy = true ∧ s.phase = .offset ∧
      (s.offsetTable.getD (s.peek 8) default).isPointer = false ∧
      decodeOffset (s.offsetTable.getD (s.peek 8) default) s.inBuf s.c = .ok (.dist0 1)) := by
  decide +kernel

theorem witness_StepRunsSubtableElement :
    (let s := inSubBody [0b10000000] 6
     let p := s.litlenTable.getD (s.peek s.litlenTablebits.toNat) default
     s.port = none ∧ s.busy = true ∧ p.isPointer = true ∧ s.phase = .body ∧ s.c + p.nbits ≤ 8 * s.inN ∧
      decodeLitlen (s.litlenTable.getD (p.subStart + peekBits s.inBuf (s.c + p.nbits) p.cwbits.toNat) default)
        s.inBuf (s.c + p.nbits) = .ok (.eob 1)) ∧
    (let s := inSubBody [0x00] 8
     let p := s.litlenTable.getD (s.peek s.litlenTablebits.toNat) default
     s.port = none ∧ s.busy = true ∧ p.isPointer = true ∧ s.phase = .body ∧ 8 * s.inN < s.c + p.nbits) ∧
    (let s := inSubOffset [0x00, 0x00] 8
     let p := s.offsetTable.getD (s.peek 8) default
     s.port = none ∧ s.busy = true ∧ p.isPointer = true ∧ s.phase = .offset ∧ s.c + p.nbits ≤ 8 * s.inN ∧
      decodeOffset (s.offsetTable.getD (p.subStart + peekBits s.inBuf (s.c + p.nbits) p.cwbits.toNat) default)
        s.inBuf (s.c + p.nbits) = .ok (.dist0 1)) ∧
    (let s := inSubOffset [0x00] 1
     let p := s.offsetTable.getD (s.peek 8) default
     s.port = none ∧ s.busy = true ∧ p.isPointer = true ∧ s.phase = .offset ∧ 8 * s.inN < s.c + p.nbits) := by
  decide +kernel

theorem witness_StepRunsCommand :
    ((State.reset.submit ⟨2, [], 0⟩).port = some ⟨2, [], 0⟩ ∧ decodeCommand ⟨2, [], 0⟩ = .ok (.cmdReserved2 0)) ∧
    ((State.reset.submit ⟨0x11, [], 0⟩).port = some ⟨0x11, [], 0⟩ ∧
      decodeCommand ⟨0x11, [], 0⟩ = .error .reservedCommandBits) ∧
    (State.reset.port = none ∧ State.reset.busy = false) := by
  decide +kernel

theorem witness_PeekIsTheSumOfTheStreamBits :
    7 < 8 * ([0xFF] : List Byte).length ∧ 8 * ([0xFF] : List Byte).length ≤ 8 := by decide +kernel

theorem witness_ConsumeMovesTheCursorOrRaises :
    (let s := started [0x00] 0
     8 * s.inN < s.c + 9 ∧ s.c + 8 ≤ 8 * s.inN ∧ s.CursorOk) := by
  unfold State.CursorOk
  decide +kernel

theorem witness_AlignmentSkipsToTheNextByte :
    (let s : State := { started [0x00] 0 with c := 8 }
     s.c % 8 = 0 ∧ s.CursorOk) := by
  unfold State.CursorOk
  decide +kernel

theorem witness_TruncatedElementIsBadData :
    (let s : State := { started [0x00] 0 with c := 1 }
     s.CursorOk ∧ 0 < (Instr.lit 8 0).streamBits ∧ 8 * s.inN < s.c + (Instr.lit 8 0).streamBits) ∧
    (let s : State := { started [0x00, 0x00] 0 with c := 0 }
     s.CursorOk ∧ 0 < (Instr.blockDynamic true 0 0 0).streamBits ∧
      8 * s.inN < s.c + (Instr.blockDynamic true 0 0 0).streamBits) := by
  unfold State.CursorOk
  decide +kernel

/-- A command that has just been accepted on a block fresh from reset keeps every invariant. -/
theorem started_inv (bytes : List Byte) (outN : Count) (h : bytes.length < 2 ^ 64) : (started bytes outN).Inv where
  sized  := ⟨List.length_replicate, List.length_replicate, List.length_replicate, List.length_replicate,
             List.length_replicate, List.length_replicate⟩
  ranged := ⟨Nat.zero_le _, Nat.zero_le _, Nat.zero_le _, Nat.zero_le _, (fun _ h => (nomatch h)), (fun _ h => (nomatch h)), (fun h => (nomatch h))⟩
  cursor := Nat.zero_le _
  out    := ⟨Nat.zero_le _, rfl, fun a => by simp [started, State.accept, Memory.read], Nat.zero_le _⟩
  input  := ⟨h, (fun _ hm => (nomatch hm))⟩
  flag   := ⟨(fun h => (nomatch h)), (by rintro _ (h | h) <;> cases h)⟩
  tables := ⟨(fun _ h => (nomatch h)), (by rintro _ (h | h) <;> cases h)⟩

theorem started_datapathOk (bytes : List Byte) (outN : Count) : (started bytes outN).DatapathOk := fun _ =>
  ⟨rfl, Nat.zero_le _, fun _ h => absurd h (Nat.not_lt_zero _), fun _ _ h => by simp [started, State.accept, Datapath.zero] at h,
   fun h => absurd h (Nat.lt_irrefl _), Nat.zero_le _⟩

/-- The fixed builds, as 41 R470 counts them. -/
theorem fixed_builds :
    buildOffsetTable fixedOffsetLens = .ok (built (buildOffsetTable fixedOffsetLens)) ∧
    (built (buildOffsetTable fixedOffsetLens)).length = 256 ∧
    buildLitlenTable fixedLitlenLens = .ok (built (buildLitlenTable fixedLitlenLens)) ∧
    (built (buildLitlenTable fixedLitlenLens)).length = 512 := by
  decide +kernel

theorem take_overlay {n : Nat} {t old : List Entry} (h : t.length = n) : (overlay t old).take n = t :=
  h ▸ overlay_take t old

/-- The fixed tables stand in `inFixed`. -/
theorem inFixed_loaded (bytes : List Byte) (c : Nat) (n : Count) : (inFixed bytes c n).FixedLoaded := by
  refine ⟨?_, ?_, rfl⟩
  · show _ = Except.ok (List.take 256 (overlay _ _))
    rw [take_overlay fixed_builds.2.1]
    exact fixed_builds.1
  · show _ = Except.ok (List.take 512 (overlay _ _))
    rw [take_overlay fixed_builds.2.2.2]
    exact fixed_builds.2.2.1

/-- The body of a fixed block, its tables loaded, keeps every invariant. -/
theorem inFixed_inv : (inFixed [0x73, 0x04, 0x00] 3 1).Inv where
  sized  := ⟨List.length_replicate, List.length_replicate, List.length_replicate,
    (overlay_length (by rw [fixed_builds.2.2.2, List.length_replicate]; decide +kernel)).trans List.length_replicate,
    (overlay_length (by rw [fixed_builds.2.1, List.length_replicate]; decide +kernel)).trans List.length_replicate,
    List.length_replicate⟩
  ranged := ⟨by decide +kernel, by decide +kernel, by decide +kernel, by decide +kernel, (fun _ h => (nomatch h)), (fun _ h => (nomatch h)), (fun h => (nomatch h))⟩
  cursor := by unfold State.CursorOk; decide +kernel
  out    := ⟨Nat.zero_le _, rfl, fun a => (by show (Memory.read [] a).isSome = true ↔ a < 0; simp [Memory.read]), Nat.zero_le _⟩
  input  := ⟨by decide +kernel, (fun _ hm => (nomatch hm))⟩
  flag   := ⟨fun _ => inFixed_loaded _ _ _, (by rintro _ (h | h) <;> cases h)⟩
  tables := ⟨fun _ h => (nomatch h), fun _ _ =>
    ⟨⟨fixedOffsetLens, built (buildOffsetTable fixedOffsetLens), by decide +kernel, by decide +kernel, fixed_builds.1,
        take_overlay rfl⟩,
     ⟨fixedLitlenLens, built (buildLitlenTable fixedLitlenLens), by decide +kernel, by decide +kernel, fixed_builds.2.2.1,
        take_overlay rfl, by decide +kernel⟩⟩⟩

theorem witness_steps :
    (∃ t, step (started [0x01, 0x00, 0x00, 0xFF, 0xFF] 0) = .next t ∧ t.busy = false) ∧
    (∃ t, step (started [0x04, 0x00, 0x00] 0) = .next t ∧ t.busy = true) ∧
    (∃ t, step (inFixed [0x73, 0x04, 0x00] 3 1) = .next t ∧ t.busy = true) := by
  have h (s : State) (b : Bool) (hs : after (step s) (fun t => t.busy == b) = true) :
      ∃ t, step s = .next t ∧ t.busy = b := by
    obtain ⟨t, h1, h2⟩ := next_of_after hs
    exact ⟨t, h1, by simpa using h2⟩
  exact ⟨h _ _ (by decide +kernel), h _ _ (by decide +kernel), h _ _ (by decide +kernel)⟩

theorem witness_DatapathStaysLinkedToTheCursor :
    ∃ s t : State, s.Inv ∧ s.DatapathOk ∧ step s = .next t ∧ t.busy = true :=
  ⟨_, _, started_inv _ _ (by decide +kernel), started_datapathOk _ _, (witness_steps.2.1).choose_spec.1,
    (witness_steps.2.1).choose_spec.2⟩

/-- Also for the second half of DatapathStaysLinkedToTheCursor, at the most bits a peek may ask for there. -/
theorem witness_RewindGivesTheInputCount :
    (let s : State := { started [0x03, 0x00] 0 with c := 10, dp := ⟨0, 46, 2, 5⟩ }
     s.CursorOk ∧ s.InputOk ∧ s.wantIn = true ∧ 46 ≤ s.dp.bitsleft.toNat ∧ s.dp.Linked s.inBuf s.c) := by
  refine ⟨by unfold State.CursorOk; decide +kernel, ⟨by decide +kernel, (fun _ h => (nomatch h))⟩, rfl, by decide +kernel, ⟨by decide +kernel, by decide +kernel, ?_, by simp, by decide +kernel, by decide +kernel⟩⟩
  intro i hi
  have : i < 46 := hi
  have h2 : streamBit [0x03, 0x00] (10 + i) = false := by
    by_cases hj : 10 + i < 16
    · have : i < 6 := by omega
      interval_cases i <;> decide +kernel
    · simp only [streamBit, List.length_cons, List.length_nil]
      rw [if_neg (by omega)]
  exact h2.symm ▸ BitVec.getLsbD_zero

theorem witness_CodespaceDecidesOverfull :
    (let s : State := { State.reset with precodeLens := [1, 1, 1] }
     2 ^ maxLen s.precodeLengths 7 < usedSpace s.precodeLengths (maxLen s.precodeLengths 7)) ∧
    (let s : State := { State.reset with lens := [1, 1, 1], noff := 3 }
     2 ^ maxLen s.offsetLengths 15 < usedSpace s.offsetLengths (maxLen s.offsetLengths 15)) ∧
    (let s : State := { State.reset with lens := [1, 1, 1], nlit := 3 }
     2 ^ maxLen s.litlenLengths 15 < usedSpace s.litlenLengths (maxLen s.litlenLengths 15)) := by
  decide +kernel

theorem witness_IncompleteCodes :
    (1 ≤ 15 ∧ (∀ l ∈ [0, 0], l ≤ 15) ∧ usedSpace [0, 0] (maxLen [0, 0] 15) < 2 ^ maxLen [0, 0] 15 ∧
      ∀ l ∈ [0, 0], l = 0) ∧
    ((∀ l ∈ [0, 1], l ≤ 15) ∧ usedSpace [0, 1] (maxLen [0, 1] 15) < 2 ^ maxLen [0, 1] 15 ∧ [0, 1][1]? = some 1 ∧
      ∀ j, j ≠ 1 → [0, 1].getD j 0 = 0) ∧
    ((∀ l ∈ [1, 15], l ≤ 15) ∧ usedSpace [1, 15] (maxLen [1, 15] 15) < 2 ^ maxLen [1, 15] 15 ∧ (∃ l ∈ [1, 15], l ≠ 0) ∧
      ¬ ∃ sym, [1, 15][sym]? = some 1 ∧ ∀ j, j ≠ sym → [1, 15].getD j 0 = 0) ∧
    (buildPrecodeTable ({ State.reset with precodeLens := [1, 2] } : State).precodeLengths = .error .incomplete ∧
      buildOffsetTable ({ State.reset with lens := [1, 2], noff := 2 } : State).offsetLengths = .error .incomplete ∧
      buildLitlenTable ({ State.reset with lens := [1, 2], nlit := 2 } : State).litlenLengths = .error .incomplete) := by
  refine ⟨by decide +kernel, ⟨by decide +kernel, by decide +kernel, by decide +kernel, ?_⟩, ⟨by decide +kernel, by decide +kernel, by decide +kernel, ?_⟩, by decide +kernel⟩
  · intro j hj
    match j with
    | 0 => rfl
    | 1 => exact absurd rfl hj
    | j + 2 => rfl
  · rintro ⟨sym, h1, h2⟩
    match sym with
    | 0 => exact absurd (h2 1 (by decide +kernel)) (by decide +kernel)
    | 1 => exact absurd h1 (by decide +kernel)
    | sym + 2 => simp at h1

theorem witness_LongestLengthAndRootWidth :
    (1 ≤ 1 ∧ maxLen [1, 2, 2] 3 < 3 ∧ 3 ≤ 3) ∧
    buildLitlenTable ({ State.reset with lens := [1, 1, 1], nlit := 3 } : State).litlenLengths = .error .overfull ∧
    buildLitlenTable ({ State.reset with lens := [1, 2], nlit := 2 } : State).litlenLengths = .error .incomplete ∧
    buildLitlenTable ({ State.reset with lens := [1, 1], nlit := 2 } : State).litlenLengths =
      .ok [⟨0x80000101, 0⟩, ⟨0x80010101, 1⟩] := by
  decide +kernel

theorem witness_SortedSymbols : (sortSyms [2, 1, 3, 3] 7)[3]? = some (3, 3) := by decide +kernel

theorem witness_AdvanceStepsTheReversedCodeword : 6 + 1 < 2 ^ 3 := by decide +kernel

theorem witness_PrecodeNeverNeedsSubtables :
    (List.replicate 19 7).length ≤ 19 ∧ (∀ l ∈ List.replicate 19 7, l ≤ 7) ∧
    ∃ t, buildPrecodeTable [7, 1, 2, 3, 4, 5, 6, 7] = .ok t := by
  refine ⟨by decide +kernel, by decide +kernel, ?_⟩
  have h : (match buildPrecodeTable [7, 1, 2, 3, 4, 5, 6, 7] with | .ok _ => true | .error _ => false) = true := by
    decide +kernel
  revert h
  cases buildPrecodeTable [7, 1, 2, 3, 4, 5, 6, 7] with
  | ok t => exact fun _ => ⟨t, rfl⟩
  | error e => exact fun h => nomatch h

theorem makeEntry_isPointer (sym n : Nat) (hn : n ≤ 15) : (makeEntry tmplPrecode sym n).isPointer = false := by
  have h2 : (sym * 2 ^ 16 + (n * 2 ^ 8 + n)) / 2 ^ 14 = sym * 4 := by omega
  have h : (makeEntry tmplPrecode sym n).word.getLsbD 14 = false := by
    simp only [makeEntry, tmplPrecode, BitVec.getLsbD_ofNat, Nat.testBit, Nat.shiftRight_eq_div_pow, Nat.add_assoc, h2,
      Nat.one_and_eq_mod_two]
    have : sym * 4 % 2 = 0 := by omega
    rw [this]
    rfl
  rw [Entry.isPointer, Entry.subtablePointer, h, Bool.and_false]

/-- A stream of the codeword 110 (symbol 2 of lengths [2,1,3,3]): direct at T = 3, behind a pointer at T = 1. -/
theorem witness_BuiltTableDecodes :
    (Complete [2, 1, 3, 3] 7 ∧ (∀ l ∈ [2, 1, 3, 3], l ≤ 7) ∧
      buildTable [2, 1, 3, 3] (makeEntry tmplPrecode) 1 7 128 =
        .ok (built (buildTable [2, 1, 3, 3] (makeEntry tmplPrecode) 1 7 128)) ∧
      buildTable [2, 1, 3, 3] (makeEntry tmplPrecode) 3 7 128 =
        .ok (built (buildTable [2, 1, 3, 3] (makeEntry tmplPrecode) 3 7 128))) ∧
    (∀ sym n, n ≤ 15 → (makeEntry tmplPrecode sym n).isPointer = false) ∧
    (let s := started [0b011] 0
     [2, 1, 3, 3][2]? = some 3 ∧ StreamHolds s.inBuf s.c (symbolBits [2, 1, 3, 3] 2) ∧ s.c + 3 ≤ 8 * s.inN) := by
  refine ⟨?_, makeEntry_isPointer, ?_⟩
  · unfold Complete
    decide +kernel
  · unfold StreamHolds
    decide +kernel

theorem witness_FixedFormatsRoundTrip :
    StreamHolds [0x03] 0 (encode fixedCodes (.blockFixed true)) ∧
    StreamHolds [0x15, 0xC1, 0x37] 0 (encode fixedCodes (.blockDynamic true 2 1 14)) ∧
    StreamHolds [0b00101000] 3 (encode fixedCodes (.pcl 5)) ∧
    commandOf (.cmdReserved3 0x3FFFFFFF) = some ⟨0xFFFFFFFF, [], 0⟩ := by
  unfold StreamHolds
  decide +kernel

theorem witness_FixedCodeRoundTrip :
    (let s := inFixed [0x73, 0x04, 0x00] 3 1
     s.port = none ∧ s.busy = true ∧ s.FixedLoaded ∧ (Instr.lit 8 0x41).layout = .coded .litlen 0x41 8 0 0 ∧
      Format.litlen ≠ .presym ∧ s.InPhaseOf .litlen ∧ 8 = (fixedCodes.lens .litlen).getD 0x41 0 ∧
      StreamHolds s.inBuf s.c (encode fixedCodes (.lit 8 0x41))) := by
  refine ⟨rfl, rfl, inFixed_loaded _ _ _, by decide +kernel, by decide +kernel, rfl, by decide +kernel, ?_⟩
  unfold StreamHolds
  decide +kernel

/-- Offset lengths 1, 2, …, 15, 15: symbol 2 direct, symbol 9 (length 10) behind the pointer of T = 8. -/
def longOffsets : Codes := ⟨[], [], [1, 2, 3, 4, 5, 6, 7, 8, 9, 10, 11, 12, 13, 14, 15, 15]⟩

def longTable : List Entry := built (buildOffsetTable longOffsets.offset)

def inLongOffsets (i : Instr) : State :=
  { started (packBits (encode longOffsets i)) 9 with phase := .offset, offsetTable := longTable }

theorem longTable_built : buildOffsetTable longOffsets.offset = .ok longTable := by decide +kernel

theorem inLongOffsets_table (i : Instr) : (inLongOffsets i).TableOf longOffsets .offset :=
  ⟨longTable, longTable_built, List.take_length (l := longTable)⟩

theorem longOffsets_accepted : longOffsets.Accepted .offset := by
  unfold Codes.Accepted Complete
  decide +kernel

theorem witness_EncodedElementRoundTrip :
    (let s := inLongOffsets (.dist2 3)
     s.port = none ∧ s.busy = true ∧ (Instr.dist2 3).layout = .coded .offset 2 3 0 0 ∧ s.InPhaseOf .offset ∧
      longOffsets.Accepted .offset ∧ s.TableOf longOffsets .offset ∧ (longOffsets.lens .offset)[2]? = some 3 ∧
      StreamHolds s.inBuf s.c (encode longOffsets (.dist2 3)) ∧ s.c + 3 ≤ 8 * s.inN) ∧
    (let s := inLongOffsets (.dist9 2 5)
     s.port = none ∧ s.busy = true ∧ (Instr.dist9 2 5).layout = .coded .offset 9 2 3 5 ∧ s.InPhaseOf .offset ∧
      longOffsets.Accepted .offset ∧ s.TableOf longOffsets .offset ∧ (longOffsets.lens .offset)[9]? = some 10 ∧
      2 = 10 - s.rootWidth .offset ∧ StreamHolds s.inBuf s.c (encode longOffsets (.dist9 2 5)) ∧
      s.c + 10 ≤ 8 * s.inN) := by
  refine ⟨⟨rfl, rfl, rfl, rfl, longOffsets_accepted, inLongOffsets_table _, rfl, ?_, by decide +kernel⟩,
    ⟨rfl, rfl, rfl, rfl, longOffsets_accepted, inLongOffsets_table _, rfl, rfl, ?_, by decide +kernel⟩⟩ <;>
  · unfold StreamHolds
    decide +kernel

/-- The same for a precode symbol, with the precode of `inLens`. -/
theorem witness_EncodedElementRoundTrip_presym :
    (let k : Codes := ⟨[1, 0, 0, 0, 0, 0, 0, 0, 0, 0, 0, 0, 0, 0, 0, 0, 0, 0, 1], [], []⟩
     let s := inLens [0x55] 3
     s.port = none ∧ s.busy = true ∧ (Instr.clZeroLong 1 42).layout = .coded .presym 18 1 7 42 ∧ s.InPhaseOf .presym ∧
      k.Accepted .presym ∧ s.TableOf k .presym ∧ (k.lens .presym)[18]? = some 1 ∧
      StreamHolds s.inBuf s.c (encode k (.clZeroLong 1 42)) ∧ s.c + 1 ≤ 8 * s.inN) := by
  refine ⟨rfl, rfl, rfl, rfl, ?_, ⟨(inLens [0x55] 3).precodeTable, ?_, List.take_length⟩, rfl, ?_, ?_⟩
  · unfold Codes.Accepted Complete
    decide +kernel
  · decide +kernel
  · unfold StreamHolds
    decide +kernel
  · decide +kernel

theorem witness_MatchExpansion : 3 ≤ 258 ∧ 258 ≤ 258 ∧ 1 ≤ 32768 ∧ 32768 ≤ 32768 ∧
    ¬ (3 ≤ 2 ∧ 2 ≤ 258 ∧ 1 ≤ 1 ∧ 1 ≤ 32768) := by decide +kernel

theorem witness_StoredBlockCopies :
    (let s := started [0x01, 0x02, 0x00, 0xFD, 0xFF, 0x48, 0x65] 2
     1 = (s.c + 3 + 7) / 8 ∧ 2 = (inRead s.inBuf 1).toNat + 256 * (inRead s.inBuf 2).toNat ∧
      65533 = (inRead s.inBuf 3).toNat + 256 * (inRead s.inBuf 4).toNat ∧ 1 + 4 ≤ s.inN ∧ 2 + 65533 = 65535 ∧
      1 + 4 + 2 ≤ s.inN ∧ 2 ≤ s.outN.toNat - s.outNext.toNat) := by
  decide +kernel

theorem witness_StoredBlockChecks :
    (let s := started [0x01, 0x05, 0x00, 0xFA] 5
     s.c + 3 ≤ 8 * s.inN ∧ 1 = (s.c + 3 + 7) / 8 ∧ s.inN < 1 + 4) ∧
    (let s := started [0x01, 0x05, 0x00, 0x00, 0x00] 5
     s.c + 3 ≤ 8 * s.inN ∧ 1 + 4 ≤ s.inN ∧ 5 = (inRead s.inBuf 1).toNat + 256 * (inRead s.inBuf 2).toNat ∧
      0 = (inRead s.inBuf 3).toNat + 256 * (inRead s.inBuf 4).toNat ∧ 5 + 0 ≠ 65535) ∧
    (let s := started [0x01, 0x01, 0x00, 0xFE, 0xFF] 5
     1 + 4 ≤ s.inN ∧ 1 = (inRead s.inBuf 1).toNat + 256 * (inRead s.inBuf 2).toNat ∧
      65534 = (inRead s.inBuf 3).toNat + 256 * (inRead s.inBuf 4).toNat ∧ 1 + 65534 = 65535 ∧ s.inN < 1 + 4 + 1) ∧
    (let s := started [0x01, 0x01, 0x00, 0xFE, 0xFF, 0x48] 0
     1 = (inRead s.inBuf 1).toNat + 256 * (inRead s.inBuf 2).toNat ∧
      65534 = (inRead s.inBuf 3).toNat + 256 * (inRead s.inBuf 4).toNat ∧ 1 + 65534 = 65535 ∧ 1 + 4 + 1 ≤ s.inN ∧
      s.outN.toNat - s.outNext.toNat < 1) := by
  decide +kernel

theorem witness_FixedBlockLoadsOnce :
    (let s : State := { started [0x03] 0 with c := 5 }
     s.c + 3 ≤ 8 * s.inN ∧ s.staticCodesLoaded = false) ∧
    (let s : State := { started [0x03] 0 with staticCodesLoaded := true }
     s.c + 3 ≤ 8 * s.inN ∧ s.staticCodesLoaded = true) := by
  decide +kernel

theorem witness_DynamicHeaderCounts :
    ({ started [0x15, 0xC1, 0x37] 0 with c := 7 } : State).c + 17 ≤
      8 * ({ started [0x15, 0xC1, 0x37] 0 with c := 7 } : State).inN ∧
    8 * (started [0x15, 0xC1] 0).inN < (started [0x15, 0xC1] 0).c + 17 := by
  decide +kernel

theorem witness_ReservedBlockIsBadData : (started [0x07] 0).c + 3 ≤ 8 * (started [0x07] 0).inN := by decide +kernel

theorem witness_PrecodeLengthWritten :
    (let s : State := { started [0x07] 0 with phase := .precodeLen, c := 5, ncl := 4, index := 2 }
     s.c + 3 ≤ 8 * s.inN ∧ s.index + 1 < s.ncl.toNat) := by
  decide +kernel

theorem witness_LastPrecodeLengthBuilds :
    (let s : State := { started [0x07] 0 with phase := .precodeLen, ncl := 19, index := 18 }
     s.precodeLens.length = 19 ∧ s.c + 3 ≤ 8 * s.inN ∧ 4 ≤ s.ncl.toNat ∧ s.ncl.toNat ≤ 19 ∧
      s.index + 1 = s.ncl.toNat) ∧
    (∃ t, buildPrecodeTable ((List.replicate 15 (0 : BitVec 3) ++ [1]).map BitVec.toNat) = .ok t) ∧
    buildPrecodeTable ((List.replicate 15 (0 : BitVec 3) ++ [2]).map BitVec.toNat) = .error .incomplete ∧
    buildPrecodeTable ([1, 1, 1].map (BitVec.toNat (w := 3))) = .error .overfull := by
  refine ⟨by decide +kernel, ⟨built (buildPrecodeTable ((List.replicate 15 (0 : BitVec 3) ++ [1]).map BitVec.toNat)), ?_⟩, ?_, ?_⟩ <;>
  decide +kernel

theorem witness_CodeLengthSymbolsWriteRuns :
    (let s := inLens [0xFF, 0xFF] 0
     codeLenRun (.cl 1 15) s = some (1, 1, 15) ∧ s.lens.length = 457 ∧ s.total ≤ 320 ∧ s.c + 1 ≤ 8 * s.inN ∧
      s.index + 1 < s.total) ∧
    (let s := inLens [0xFF, 0xFF] 251
     codeLenRun (.clRepPrev 1 3) s = some (3, 6, 0) ∧ s.index ≠ 0 ∧ s.c + 3 ≤ 8 * s.inN ∧ s.index + 6 < s.total) ∧
    (let s := inLens [0xFF, 0xFF] 0
     codeLenRun (.clZero 1 0) s = some (4, 3, 0) ∧ s.c + 4 ≤ 8 * s.inN ∧ s.index + 3 < s.total) ∧
    (let s := inLens [0xFF, 0xFF] 119
     codeLenRun (.clZeroLong 1 127) s = some (8, 138, 0) ∧ s.c + 8 ≤ 8 * s.inN ∧ s.index + 138 < s.total) := by
  decide +kernel

theorem witness_LastCodeLengthBuilds :
    (let s := inLens [0xFF] 257
     codeLenRun (.cl 1 0) s = some (1, 1, 0) ∧ s.c + 1 ≤ 8 * s.inN ∧ s.index + 1 = s.total ∧
      buildOffsetTable (((setRun 0 1 257 s.lens).drop 257).take 1 |>.map BitVec.toNat) =
        .ok (List.replicate 256 ⟨0x00010101, 0⟩) ∧
      buildLitlenTable (((setRun 0 1 257 s.lens).take 257).map BitVec.toNat) =
        .ok (List.replicate 2 ⟨0x80000101, 0⟩)) ∧
    (let s := inLens [0xFF] 257
     codeLenRun (.cl 1 2) s = some (1, 1, 2) ∧
      buildOffsetTable (((setRun 2 1 257 s.lens).drop 257).take 1 |>.map BitVec.toNat) = .error .incomplete) ∧
    (let s : State := { inLens [0xFF] 257 with lens := List.replicate 457 1 }
     codeLenRun (.cl 1 0) s = some (1, 1, 0) ∧
      buildOffsetTable (((setRun 0 1 257 s.lens).drop 257).take 1 |>.map BitVec.toNat) =
        .ok (List.replicate 256 ⟨0x00010101, 0⟩) ∧
      buildLitlenTable (((setRun 0 1 257 s.lens).take 257).map BitVec.toNat) = .error .overfull) := by
  decide +kernel

theorem witness_LengthOverrunIsBadData :
    (let s := inLens [0xFF] 256
     codeLenRun (.clZero 1 0) s = some (4, 3, 0) ∧ s.c + 4 ≤ 8 * s.inN ∧ s.total < s.index + 3) := by
  decide +kernel

theorem witness_RepeatWithNoPreviousIsBadData :
    (inLens [0xFF] 0).index = 0 ∧ (inLens [0xFF] 0).c + (1 : BitVec 4).toNat ≤ 8 * (inLens [0xFF] 0).inN := by
  decide +kernel

theorem witness_LiteralWritesOneByte :
    (let s : State := { started [0x00] 1 with c := 7 }
     s.c + (1 : BitVec 4).toNat ≤ 8 * s.inN ∧ s.outNext ≠ s.outN) ∧
    (let s := started [0x00] 0
     s.c + (8 : BitVec 4).toNat ≤ 8 * s.inN ∧ s.outNext = s.outN) ∧
    8 * (started [0x00] 0).inN < (started [0x00] 0).c + (9 : BitVec 4).toNat := by
  decide +kernel

theorem witness_EndOfBlock :
    ((started [0x00] 0).c + (8 : BitVec 4).toNat ≤ 8 * (started [0x00] 0).inN ∧ (started [0x00] 0).final = false) ∧
    ({ started [0x00] 0 with final := true } : State).final = true ∧
    8 * (started [0x00] 0).inN < (started [0x00] 0).c + (9 : BitVec 4).toNat := by
  decide +kernel

theorem witness_LengthSymbols :
    (Instr.len257 8).layout = .coded .litlen 257 8 0 0 ∧ (Instr.len284 3 31).layout = .coded .litlen 284 3 5 31 ∧
    257 ≤ 284 ∧ 284 ≤ 285 ∧ (started [0x00] 0).c + (3 + 5) ≤ 8 * (started [0x00] 0).inN := by
  decide +kernel

/-- OUT of `inMatch` is in order. -/
theorem inMatch_out (bytes : List Byte) (n : Nat) : (inMatch bytes n 8).OutOk where
  bound   := by show 2 ≤ 8; decide +kernel
  wf      := rfl
  written := fun a => by
    show (Memory.read [(0, 0x61), (1, 0x62)] a).isSome = true ↔ a < 2
    simp only [Memory.read]
    by_cases h0 : a = 0
    · simp [h0]
    · by_cases h1 : a = 1
      · simp [h1]
      · simp [h0, h1]; omega
  defined := Nat.zero_le _

theorem witness_OffsetSymbolsCopy :
    (let s := inMatch [0x00] 6 8
     (Instr.dist1 8).layout = .coded .offset 1 8 0 0 ∧ s.OutOk ∧ s.c + (8 + 0) ≤ 8 * s.inN ∧
      offBase 1 + 0 ≤ s.outNext.toNat ∧ s.matchLen ≤ s.outN.toNat - s.outNext.toNat) :=
  ⟨rfl, inMatch_out _ _, by decide +kernel, by decide +kernel, by decide +kernel⟩

theorem witness_MatchChecks :
    (let s := inMatch [0x00] 6 8
     (Instr.dist2 8).layout = .coded .offset 2 8 0 0 ∧ s.c + (8 + 0) ≤ 8 * s.inN ∧ s.outNext.toNat < offBase 2 + 0) ∧
    (let s := inMatch [0x00] 7 8
     (Instr.dist1 8).layout = .coded .offset 1 8 0 0 ∧ offBase 1 + 0 ≤ s.outNext.toNat ∧
      s.outN.toNat - s.outNext.toNat < s.matchLen) := by
  decide +kernel

/-- For StepRunsCommand, ResetCommand, DecompressAccepted and RefusedCommands: an idle block, a busy one, and a word of
each refused kind. -/
theorem witness_commands : State.reset.busy = false ∧ (started [] 0).busy = true ∧
    (State.reset.submit ⟨0x11, [], 0⟩).port = some ⟨0x11, [], 0⟩ ∧ (0x11 : BitVec 32).extractLsb' 4 28 ≠ 0 ∧
    (2 : BitVec 32).extractLsb' 0 2 = 2 ∧ (3 : BitVec 32).extractLsb' 0 2 = 3 := by
  decide +kernel

theorem witness_RaiseEndsTheCommand : (started [] 0).port = none := rfl

theorem witness_FinishReports :
    (started [0x00] 0).CursorOk ∧ (started [0x00] 0).InputOk ∧ (started [0x00] 0).wantIn = true ∧
    (started [0x00] 0).finish.actualOutValid = true :=
  ⟨Nat.zero_le _, ⟨by decide +kernel, (fun _ h => (nomatch h))⟩, rfl, by decide +kernel⟩

theorem witness_HostReadsTheOutput :
    (inMatch [] 3 8).OutOk ∧ 1 < (inMatch [] 3 8).outNext.toNat ∧ (inMatch [] 3 8).outNext.toNat ≤ 2 ∧
    (inMatch [] 3 8).outN.toNat ≤ 8 ∧ 7 < (inMatch [] 3 8).outN.toNat ∧ (inMatch [] 3 8).busy = true :=
  ⟨inMatch_out _ _, by decide +kernel, by decide +kernel, by decide +kernel, by decide +kernel, rfl⟩

theorem witness_BodyKeepsTheObject :
    ∃ s t : State, s.port = none ∧ s.busy = true ∧ (s.phase = .body ∨ s.phase = .offset) ∧ step s = .next t ∧
      t.busy = true :=
  ⟨inFixed [0x73, 0x04, 0x00] 3 1, _, rfl, rfl, .inl rfl, witness_steps.2.2.choose_spec.1,
    witness_steps.2.2.choose_spec.2⟩

theorem witness_RunningCommandKeepsItsInput : ∃ s t : State, s.port = none ∧ s.busy = true ∧ step s = .next t :=
  ⟨started [0x04, 0x00, 0x00] 0, _, rfl, rfl, witness_steps.2.1.choose_spec.1⟩

theorem witness_ResponseHoldsWhileBusy : ∃ s t : State, s.busy = true ∧ step s = .next t ∧ t.busy = true :=
  ⟨started [0x04, 0x00, 0x00] 0, _, rfl, witness_steps.2.1.choose_spec.1, witness_steps.2.1.choose_spec.2⟩

/-- For OutputIsWrittenForward, CursorAndOutputBoundsKept, SizesAndRangesKept, FlagInvariantKept, TablesInUseAreBuilt and
OnlyABuildCanStop: a body with the fixed tables loaded, and the step of a literal in it. -/
theorem witness_invariants :
    ∃ s t : State, s.Inv ∧ s.OutOk ∧ s.CursorOk ∧ s.Sized ∧ s.Ranged ∧ s.FlagOk ∧ s.staticCodesLoaded = true ∧
      s.port = none ∧ s.busy = true ∧ step s = .next t :=
  ⟨_, _, inFixed_inv, inFixed_inv.out, inFixed_inv.cursor, inFixed_inv.sized, inFixed_inv.ranged, inFixed_inv.flag,
    rfl, rfl, rfl, witness_steps.2.2.choose_spec.1⟩

/-- The second clause of SizesAndRangesKept, at the last index of the longest lists: nlit = 288, noff = 32. -/
theorem witness_SizesAndRangesKept_runs :
    (let s : State := { started [] 0 with phase := .codeLen, nlit := 288, noff := 32, index := 319 }
     s.Ranged ∧ s.index < s.total ∧ codeLenRun (.clZeroLong 7 127) s = some (14, 138, 0)) :=
  ⟨⟨by decide +kernel, by decide +kernel, by decide +kernel, by decide +kernel, (fun _ h => (nomatch h)), fun _ _ => by decide +kernel, (fun h => (nomatch h))⟩,
    by decide +kernel, by decide +kernel⟩

theorem witness_CommandEnds : ∃ s : State, s.Inv ∧ s.busy = true ∧ s.port = none :=
  ⟨_, inFixed_inv, rfl, rfl⟩

/-- A block that has been used (its fixed tables loaded) and a fresh one. -/
theorem witness_NoResultDependsOnEarlierCommands :
    ∃ s : State, s.Inv ∧ s.busy = false ∧ s.port = none ∧ s.staticCodesLoaded = true ∧
      ([0x03, 0x00] : List Byte).length < 2 ^ 64 ∧
      commandOf (.cmdDecompress true true [0x03, 0x00] 4) = some ⟨0xD, [0x03, 0x00], 4⟩ := by
  refine ⟨{ inFixed [0x73, 0x04, 0x00] 3 1 with busy := false }, ?_, rfl, rfl, rfl, by decide +kernel,
    by decide +kernel⟩
  have h := inFixed_inv
  exact ⟨⟨h.sized.1, h.sized.2, h.sized.3, h.sized.4, h.sized.5, h.sized.6⟩,
    ⟨h.ranged.1, h.ranged.2, h.ranged.3, h.ranged.4, (fun h => (nomatch h)), (fun h => (nomatch h)), h.ranged.7⟩, h.cursor,
    ⟨h.out.1, h.out.2, h.out.3, h.out.4⟩, h.input, ⟨h.flag.1, (fun h => (nomatch h))⟩, ⟨(fun h => (nomatch h)), (fun h => (nomatch h))⟩⟩

end Sys2Proof.Tests
end

/-! PROOFS. What a step can do, said once: every outcome of `step` is a command's, or that of an element of the phase
the block is in. Every invariant of a step is proved from `step_yields`. -/

namespace Sys2Proof.Machine
open Sys2Proof

/-! ### Outcomes -/

/-- If the outcome is a next state, that state has the property. -/
def Yields (P : State → Prop) (o : Out) : Prop := ∀ t, o = .next t → P t

@[simp] theorem yields_next {P : State → Prop} {t : State} : Yields P (.next t) ↔ P t := by
  simp [Yields]

@[simp] theorem yields_fault {P : State → Prop} {f : Fault} : Yields P (.fault f) := by
  simp [Yields]

theorem State.consume_yields {P : State → Prop} {s : State} {n : Nat} {k : State → Out}
    (raised : P (s.raise .overread)) (goesOn : s.c + n ≤ 8 * s.inN → Yields P (k (s.advance n))) :
    Yields P (s.consume n k) := by
  obtain ⟨-, h⟩ | ⟨hle, h⟩ := s.consume_cases n k
  · rw [h, yields_next]; exact raised
  · rw [h]; exact goesOn hle

/-- A failed precode build leaves an array of each size in its table and in `sorted_syms`, and raises (41 R469). -/
theorem State.failPrecode_yields {P : State → Prop} {s : State} {e : Cause}
    (h : ∀ (table : List Entry) (syms : List (BitVec 9)), table.length = 128 → syms.length = 288 →
      P (State.raise { s with precodeTable := table, sortedSyms := syms } e)) : Yields P (s.failPrecode e) :=
  yields_next.mpr (h _ _ (by simp [freeTable, Config.precodeEnough]) (by simp [freeSorted, Config.numLitlenSyms]))

/-- As `failPrecode_yields`, for the offset table. -/
theorem State.failOffset_yields {P : State → Prop} {s : State} {e : Cause}
    (h : ∀ (table : List Entry) (syms : List (BitVec 9)), table.length = 402 → syms.length = 288 →
      P (State.raise { s with offsetTable := table, sortedSyms := syms } e)) : Yields P (s.failOffset e) :=
  yields_next.mpr (h _ _ (by simp [freeTable, Config.offsetEnough]) (by simp [freeSorted, Config.numLitlenSyms]))

/-- As `failPrecode_yields`, for the lit/len table and its root width. -/
theorem State.failLitlen_yields {P : State → Prop} {s : State} {e : Cause}
    (h : ∀ (table : List Entry) (bits : BitVec 4) (syms : List (BitVec 9)), table.length = 2342 →
      bits = BitVec.ofNat 4 (litlenRootBits s.litlenLengths) → syms.length = 288 →
      P (State.raise { s with litlenTable := table, litlenTablebits := bits, sortedSyms := syms } e)) :
    Yields P (s.failLitlen e) :=
  yields_next.mpr
    (h _ _ _ (by simp [freeTable, Config.litlenEnough]) rfl (by simp [freeSorted, Config.numLitlenSyms]))

theorem State.buildPrecode_yields {P : State → Prop} {s : State} {k : State → Out}
    (built : ∀ t, buildPrecodeTable s.precodeLengths = .ok t → Yields P (k (s.withPrecode t)))
    (failed : ∀ e, Yields P (s.failPrecode e)) : Yields P (s.buildPrecode k) := by
  obtain ⟨t, ht, h⟩ | ⟨-, h⟩ | ⟨-, h⟩ | ⟨-, h⟩ := s.buildPrecode_cases k <;> rw [h]
  · exact built t ht
  · exact failed _
  · exact failed _
  · exact yields_fault

theorem State.buildOffset_yields {P : State → Prop} {s : State} {k : State → Out}
    (built : ∀ t, buildOffsetTable s.offsetLengths = .ok t → Yields P (k (s.withOffset t)))
    (failed : ∀ e, Yields P (s.failOffset e)) : Yields P (s.buildOffset k) := by
  obtain ⟨t, ht, h⟩ | ⟨-, h⟩ | ⟨-, h⟩ | ⟨-, h⟩ := s.buildOffset_cases k <;> rw [h]
  · exact built t ht
  · exact failed _
  · exact failed _
  · exact yields_fault

theorem State.buildLitlen_yields {P : State → Prop} {s : State} {k : State → Out}
    (built : ∀ t, buildLitlenTable s.litlenLengths = .ok t → Yields P (k (s.withLitlen t)))
    (failed : ∀ e, Yields P (s.failLitlen e)) : Yields P (s.buildLitlen k) := by
  obtain ⟨t, ht, h⟩ | ⟨-, h⟩ | ⟨-, h⟩ | ⟨-, h⟩ := s.buildLitlen_cases k <;> rw [h]
  · exact built t ht
  · exact failed _
  · exact failed _
  · exact yields_fault

/-! ### The element of a running step -/

/-- The outcomes of the elements that can be decoded in the phase of `s` (44 R704, 42 R520, R522, 43 R600, R611). Length
and offset symbols are told apart by their numbers only: all bits they take, and the length or offset they name. -/
inductive Element (s : State) : Out → Prop
  | blockStored (h : s.phase = .blockHeader) (final : Bool) : Element s (execBlockStored final s)
  | blockFixed (h : s.phase = .blockHeader) (final : Bool) : Element s (execBlockFixed final s)
  | blockDynamic (h : s.phase = .blockHeader) (final : Bool) (hlit hdist : BitVec 5) (hclen : BitVec 4) :
      Element s (execBlockDynamic final hlit hdist hclen s)
  | blockReserved (h : s.phase = .blockHeader) (final : Bool) : Element s (execBlockReserved final s)
  | pcl (h : s.phase = .precodeLen) (l : BitVec 3) : Element s (execPcl l s)
  | cl (h : s.phase = .codeLen) (cw n : BitVec 4) : Element s (execCl cw n s)
  | clRepPrev (h : s.phase = .codeLen) (cw : BitVec 4) (x : BitVec 2) : Element s (execClRepPrev cw x s)
  | clZero (h : s.phase = .codeLen) (cw : BitVec 4) (x : BitVec 3) : Element s (execClZero cw x s)
  | clZeroLong (h : s.phase = .codeLen) (cw : BitVec 4) (x : BitVec 7) : Element s (execClZeroLong cw x s)
  | lit (h : s.phase = .body) (cw : BitVec 4) (b : Byte) : Element s (execLit cw b s)
  | eob (h : s.phase = .body) (cw : BitVec 4) : Element s (execEob cw s)
  | length (h : s.phase = .body) (bits length : Nat) (hmin : 3 ≤ length) (hmax : length ≤ 258) :
      Element s (s.lengthElement bits length)
  | reservedLength (h : s.phase = .body) : Element s (.next (s.raise .reservedLitlen))
  | offset (h : s.phase = .offset) (bits offset : Nat) (hmin : 1 ≤ offset) : Element s (s.offsetElement bits offset)
  | reservedOffset (h : s.phase = .offset) : Element s (.next (s.raise .reservedOffset))

/-- A length symbol's meaning is `lengthElement` with a length of 3 to 258, or the raise of a reserved symbol. -/
theorem Element.of_lenInstr {s : State} {sym v : Nat} {cw : BitVec 4} {i : Instr} (hp : s.phase = .body)
    (h : lenInstr sym cw v = some i) : Element s (exec i s) := by
  unfold lenInstr at h
  split at h <;> cases h
  case h_30 | h_31 => exact .reservedLength hp
  all_goals refine .length hp _ _ ?_ ?_ <;> omega

/-- An offset symbol's meaning is `offsetElement` with an offset of at least 1, or the raise of a reserved symbol. -/
theorem Element.of_distInstr {s : State} {sym v : Nat} {cw : BitVec 4} {i : Instr} (hp : s.phase = .offset)
    (h : distInstr sym cw v = some i) : Element s (exec i s) := by
  unfold distInstr at h
  split at h <;> cases h
  case h_31 | h_32 => exact .reservedOffset hp
  all_goals
    refine .offset hp _ _ ?_
    omega

/-- A block header (42 R500 to R503). -/
theorem Element.of_decodeBlockHeader {s : State} (inb : List Byte) (c : Nat) (hp : s.phase = .blockHeader) :
    Element s (exec (decodeBlockHeader inb c) s) := by
  unfold decodeBlockHeader
  split
  · exact .blockStored hp _
  · exact .blockFixed hp _
  · exact .blockDynamic hp _ _ _ _
  · exact .blockReserved hp _

/-- A precode length (42 R520). -/
theorem Element.of_decodePcl {s : State} (inb : List Byte) (c : Nat) (hp : s.phase = .precodeLen) :
    Element s (exec (decodePcl inb c) s) := by
  unfold decodePcl
  exact .pcl hp _

/-- A precode symbol (42 R522 to R526). -/
theorem Element.of_decodePresym {s : State} {e : Entry} {inb : List Byte} {c : Nat} {i : Instr} (hp : s.phase = .codeLen)
    (h : decodePresym e inb c = .ok i) : Element s (exec i s) := by
  simp only [decodePresym] at h
  split at h
  · cases h; exact .cl hp _ _
  · split at h <;> cases h
    · exact .clRepPrev hp _ _
    · exact .clZero hp _ _
    · exact .clZeroLong hp _ _

/-- A lit/len symbol (43 R600, R605). -/
theorem Element.of_decodeLitlen {s : State} {e : Entry} {inb : List Byte} {c : Nat} {i : Instr} (hp : s.phase = .body)
    (h : decodeLitlen e inb c = .ok i) : Element s (exec i s) := by
  unfold decodeLitlen at h
  split at h
  · cases h; exact .lit hp _ _
  split at h
  · cases h; exact .eob hp _
  split at h
  · split at h
    · cases h; exact .reservedLength hp
    · split at h <;> cases h; exact .reservedLength hp
  · split at h <;> cases h; exact .of_lenInstr hp ‹_›

/-- An offset symbol (43 R611, R605). -/
theorem Element.of_decodeOffset {s : State} {e : Entry} {inb : List Byte} {c : Nat} {i : Instr} (hp : s.phase = .offset)
    (h : decodeOffset e inb c = .ok i) : Element s (exec i s) := by
  unfold decodeOffset at h
  split at h
  · split at h
    · cases h; exact .reservedOffset hp
    · split at h <;> cases h; exact .reservedOffset hp
  · split at h <;> cases h; exact .of_distInstr hp ‹_›

/-! ### Fetching -/

/-- What fetching may do to the state: refill, and consume the root bits of a subtable pointer (43 R604) within IN. -/
inductive State.FetchedFrom (s : State) : State → Prop
  | intro (c : Nat) (dp : Datapath) (le : s.c ≤ c) (inside : s.CursorOk → c ≤ 8 * s.inN) :
      FetchedFrom s { s with c := c, dp := dp }

theorem State.refill_fetchedFrom (s : State) : s.FetchedFrom s.refill :=
  .intro _ _ (Nat.le_refl _) id

theorem State.refillForOffset_fetchedFrom (s : State) : s.FetchedFrom s.refillForOffset := by
  unfold State.refillForOffset
  split
  · exact s.refill_fetchedFrom
  · exact .intro _ _ (Nat.le_refl _) id

theorem State.FetchedFrom.advance {s u : State} {n : Nat} (h : s.FetchedFrom u) (hn : u.c + n ≤ 8 * u.inN) :
    s.FetchedFrom (u.advance n) := by
  obtain ⟨c, dp, le, -⟩ := h
  exact .intro _ _ (Nat.le_add_right_of_le le) fun _ => hn

theorem State.FetchedFrom.phase {s u : State} (h : s.FetchedFrom u) : u.phase = s.phase := by
  obtain ⟨c, dp, -, -⟩ := h
  rfl

theorem State.FetchedFrom.busy {s u : State} (h : s.FetchedFrom u) : u.busy = s.busy := by
  obtain ⟨c, dp, -, -⟩ := h
  rfl

/-- What a fetch can give: an element of the phase, the overread of a pointer's root bits, or a stop. -/
inductive FetchForm (s : State) : Fetched → Prop
  | instr (u : State) (i : Instr) (source : s.FetchedFrom u) (element : Element u (exec i u)) : FetchForm s (.instr i u)
  | raised (u : State) (source : s.FetchedFrom u) : FetchForm s (.raised (u.raise .overread))
  | stuck (f : Fault) : FetchForm s (.stuck f)

theorem FetchForm.of_decoded {s u : State} {d : Except DecodeError Instr} (hu : s.FetchedFrom u)
    (h : ∀ i, d = .ok i → Element u (exec i u)) : FetchForm s (Fetched.ofDecoded d u) := by
  cases d with
  | ok i => exact .instr u i hu (h i rfl)
  | error e => exact .stuck _

theorem FetchForm.of_lookup {s u : State} {table : List Entry} {T : Nat} {k : Entry → State → Fetched}
    (hu : s.FetchedFrom u) (hk : ∀ e v, s.FetchedFrom v → FetchForm s (k e v)) :
    FetchForm s (u.lookup table T k) := by
  obtain ⟨-, h⟩ | ⟨-, -, h⟩ | ⟨-, hle, h⟩ := u.lookup_cases table T k <;> rw [h]
  · exact hk _ _ hu
  · exact .raised u hu
  · exact hk _ _ (hu.advance hle)

theorem fetch_form (s : State) : FetchForm s (fetch s) := by
  unfold fetch
  split
  case h_1 hp => exact .instr _ _ s.refill_fetchedFrom (.of_decodeBlockHeader _ _ hp)
  case h_2 hp => exact .instr _ _ s.refill_fetchedFrom (.of_decodePcl _ _ hp)
  case h_3 hp => exact .of_decoded s.refill_fetchedFrom fun _ => .of_decodePresym hp
  case h_4 hp =>
    exact .of_lookup s.refill_fetchedFrom fun e v hv =>
      .of_decoded hv fun _ => .of_decodeLitlen (hv.phase.trans hp)
  case h_5 hp =>
    exact .of_lookup s.refillForOffset_fetchedFrom fun e v hv =>
      .of_decoded hv fun _ => .of_decodeOffset (hv.phase.trans hp)

/-! ### A step -/

/-- The instruction of a command word refuses, resets or accepts (44 R701 to R703). -/
theorem command_yields {P : State → Prop} {s : State} {m : HostCmd} {i : Instr} (h : decodeCommand m = .ok i)
    (refused : P s.refuse) (reset : s.busy = false → P s.resetObject)
    (accepted : ∀ wantIn wantOut, s.busy = false → P (s.accept wantIn wantOut m.inBytes m.outN)) :
    Yields P (exec i s) := by
  unfold decodeCommand at h
  split at h
  · split at h <;> cases h
    simp only [exec, execCmdReset]
    cases hb : s.busy
    · simpa using reset hb
    · simpa using refused
  · split at h <;> cases h
    simp only [exec, execCmdDecompress]
    cases hb : s.busy
    · simpa using accepted _ _ hb
    · simpa using refused
  · cases h; exact yields_next.mpr refused
  · cases h; exact yields_next.mpr refused

/-- A property holds after a step if it holds after each thing a step can be: nothing, a command refused, a RESET, an
accepted DECOMPRESS, the overread of a fetch, or an element of the phase. -/
theorem step_yields {P : State → Prop} {s : State} (idle : s.port = none → s.busy = false → P s)
    (refused : P s.takePort.refuse) (reset : s.busy = false → P s.takePort.resetObject)
    (accepted : ∀ m wantIn wantOut, s.port = some m → s.busy = false →
      P (s.takePort.accept wantIn wantOut m.inBytes m.outN))
    (overread : ∀ u, s.port = none → s.busy = true → s.FetchedFrom u → P (u.raise .overread))
    (element : ∀ u o, s.port = none → s.busy = true → s.FetchedFrom u → Element u o → Yields P o) :
    Yields P (step s) := by
  obtain ⟨m, i, hm, hd, h⟩ | ⟨m, e, -, -, h⟩ | ⟨hp, hb, i, u, hf, h⟩ | ⟨hp, hb, u, hf, h⟩ | ⟨-, -, f, -, h⟩ | ⟨hp, hb, h⟩ :=
    step_cases s <;> rw [h]
  · exact command_yields hd refused reset fun a b => accepted m a b hm
  · exact yields_next.mpr refused
  · cases hf ▸ fetch_form s with
    | instr _ _ hu he => exact element u _ hp hb hu he
  · cases hf ▸ fetch_form s with
    | raised v hv => exact yields_next.mpr (overread v hp hb hv)
  · exact yields_fault
  · exact yields_next.mpr (idle hp hb)

end Sys2Proof.Machine

/-! PROOFS. The cursor stays inside IN, and OUT keeps its form and its bounds (10 R110, 20 R202, 43 R603). -/

namespace Sys2Proof.Machine
open Sys2Proof

/-! ### OUT -/

/-- `State.OutOk` reads OUT and its three counts only. -/
theorem State.OutOk.congr {s t : State} (h : s.OutOk) (out : t.out = s.out) (outN : t.outN = s.outN)
    (outNext : t.outNext = s.outNext) (defined : t.outDefined.toNat ≤ s.outNext.toNat) : t.OutOk where
  bound := by rw [outNext, outN]; exact h.bound
  wf := by rw [out]; exact h.wf
  written := by rw [out, outNext]; exact h.written
  defined := by rw [outNext]; exact defined

/-- Below `out_n` the count `out_next` does not wrap. -/
theorem State.emit_outNext_toNat {s : State} (v : Byte) (h : s.outNext.toNat < s.outN.toNat) :
    (s.emit v).outNext.toNat = s.outNext.toNat + 1 := by
  rw [State.emit_outNext]
  have := s.outN.isLt
  bv_omega

/-- Writing the next byte where there is room (20 R202). -/
theorem State.OutOk.emit {s : State} (h : s.OutOk) (v : Byte) (room : s.outNext.toNat < s.outN.toNat) :
    (s.emit v).OutOk where
  bound := by rw [emit_outNext_toNat v room, emit_outN]; exact room
  wf := emit_out_wf v h.wf
  written a := by
    rw [emit_read, emit_outNext_toNat v room]
    split
    · next ha => simp [ha]
    · rw [h.written]; omega
  defined := by
    have := h.defined
    rw [emit_outNext_toNat v room, emit_outDefined]
    omega

/-- A match copy that fits (43 R609, R613). -/
theorem State.OutOk.copyMatch {offset n : Nat} {s t : State} (h : s.OutOk)
    (room : n ≤ s.outN.toNat - s.outNext.toNat) (hc : State.copyMatch offset n s = some t) : t.OutOk := by
  induction n generalizing s with
  | zero => cases hc; exact h
  | succ n ih =>
    have hlt : s.outNext.toNat < s.outN.toNat := by omega
    simp only [State.copyMatch] at hc
    split at hc
    · refine ih (h.emit _ hlt) ?_ hc
      rw [emit_outNext_toNat _ hlt, emit_outN]
      omega
    · cases hc

/-- A stored copy that fits (42 R509, R514). -/
theorem State.OutOk.copyStored {n : Nat} {s : State} (h : s.OutOk) (room : n ≤ s.outN.toNat - s.outNext.toNat) :
    (State.copyStored n s).OutOk := by
  induction n generalizing s with
  | zero => exact h
  | succ n ih =>
    have hlt : s.outNext.toNat < s.outN.toNat := by omega
    have he := h.emit s.thisByte hlt
    refine ih (he.congr rfl rfl rfl he.defined) ?_
    rw [nextByte_outN, nextByte_outNext, emit_outNext_toNat _ hlt, emit_outN]
    omega

/-! ### The cursor and OUT together -/

/-- What O54 keeps: `C ≤ 8·in_n`, and OUT in its form and its bounds. -/
structure State.BoundsOk (s : State) : Prop where
  cursor : s.CursorOk
  out    : s.OutOk

/-- What moves neither the cursor nor OUT keeps the bounds. -/
theorem State.BoundsOk.congr {s t : State} (h : s.BoundsOk) (c : t.c = s.c := by rfl)
    (inBuf : t.inBuf = s.inBuf := by rfl) (out : t.out = s.out := by rfl) (outN : t.outN = s.outN := by rfl)
    (outNext : t.outNext = s.outNext := by rfl) (defined : t.outDefined = s.outDefined := by rfl) : t.BoundsOk where
  cursor := by rw [State.CursorOk, State.inN, c, inBuf]; exact h.cursor
  out := h.out.congr out outN outNext (defined ▸ h.out.defined)

/-- The end of a command with an error defines no byte of OUT (44 R710). -/
theorem State.BoundsOk.ended {s t : State} (h : s.BoundsOk) (c : t.c = s.c := by rfl)
    (inBuf : t.inBuf = s.inBuf := by rfl) (out : t.out = s.out := by rfl) (outN : t.outN = s.outN := by rfl)
    (outNext : t.outNext = s.outNext := by rfl) (defined : t.outDefined = 0 := by rfl) : t.BoundsOk where
  cursor := by rw [State.CursorOk, State.inN, c, inBuf]; exact h.cursor
  out := h.out.congr out outN outNext (defined ▸ Nat.zero_le _)

theorem State.BoundsOk.raise {s : State} (h : s.BoundsOk) (e : Cause) : (s.raise e).BoundsOk := h.ended

theorem State.BoundsOk.advance {s : State} {n : Nat} (h : s.BoundsOk) (hn : s.c + n ≤ 8 * s.inN) :
    (s.advance n).BoundsOk :=
  ⟨hn, h.out.congr rfl rfl rfl h.out.defined⟩

theorem State.BoundsOk.fetchedFrom {s u : State} (h : s.BoundsOk) (hu : s.FetchedFrom u) : u.BoundsOk := by
  obtain ⟨c, dp, -, inside⟩ := hu
  exact ⟨inside h.cursor, h.out.congr rfl rfl rfl h.out.defined⟩

theorem State.BoundsOk.endBlock {s : State} (h : s.BoundsOk) : s.endBlock.BoundsOk := by
  cases hf : s.final
  · rw [State.endBlock_of_not_final hf]
    exact h.congr
  · rw [State.endBlock_of_final hf]
    exact ⟨h.cursor, h.out.congr rfl rfl rfl (Nat.le_refl _)⟩

theorem State.BoundsOk.accept (s : State) (wantIn wantOut : Bool) (inBytes : List Byte) (outN : Count) :
    (s.accept wantIn wantOut inBytes outN).BoundsOk where
  cursor := Nat.zero_le _
  out := ⟨Nat.zero_le _, Memory.wf_nil, by simp [Memory.read], Nat.zero_le _⟩

/-- A consume keeps the bounds if what follows it does. -/
theorem State.BoundsOk.consume {s : State} {n : Nat} {k : State → Out} (h : s.BoundsOk)
    (hk : (s.advance n).BoundsOk → Yields State.BoundsOk (k (s.advance n))) :
    Yields State.BoundsOk (s.consume n k) :=
  State.consume_yields (h.raise _) fun hn => hk (h.advance hn)

/-- The builds write tables only. -/
theorem State.BoundsOk.buildPrecode {s : State} {k : State → Out} (h : s.BoundsOk)
    (hk : ∀ u, u.BoundsOk → Yields State.BoundsOk (k u)) : Yields State.BoundsOk (s.buildPrecode k) :=
  State.buildPrecode_yields (fun _ _ => hk _ h.congr)
    fun _ => State.failPrecode_yields fun _ _ _ _ => h.ended

theorem State.BoundsOk.buildCodes {s : State} {k : State → Out} (h : s.BoundsOk)
    (hk : ∀ u, u.BoundsOk → Yields State.BoundsOk (k u)) : Yields State.BoundsOk (s.buildCodes k) :=
  State.buildOffset_yields
    (fun t _ =>
      have ho : (s.withOffset t).BoundsOk := h.congr
      State.buildLitlen_yields (fun _ _ => hk _ ho.congr)
        fun _ => State.failLitlen_yields fun _ _ _ _ _ _ => ho.ended)
    fun _ => State.failOffset_yields fun _ _ _ _ => h.ended

/-! ### Elements -/

theorem State.BoundsOk.blockHeader {s : State} {final : Bool} {k : State → Out} (h : s.BoundsOk)
    (hk : ∀ u, u.BoundsOk → Yields State.BoundsOk (k u)) : Yields State.BoundsOk (s.blockHeader final k) :=
  h.consume fun h1 => State.BoundsOk.consume h1.congr (hk _)

/-- The copied bytes end inside IN because the cursor is at a byte (42 R505). -/
theorem State.BoundsOk.storedData {s : State} (h : s.BoundsOk) (aligned : 8 ∣ s.c) (len nlen : BitVec 16) :
    Yields State.BoundsOk (s.storedData len nlen) := by
  obtain ⟨-, he⟩ | ⟨-, -, he⟩ | ⟨-, -, -, he⟩ | ⟨-, hin, hout, he⟩ := s.storedData_cases len nlen <;>
    rw [he, yields_next]
  · exact h.raise _
  · exact h.raise _
  · exact h.raise _
  · refine State.BoundsOk.endBlock ⟨?_, h.out.copyStored hout⟩
    have hc : s.c ≤ 8 * s.inN := h.cursor
    rw [State.copyStored_frame]
    show s.c + 8 * len.toNat ≤ 8 * s.inN
    omega

theorem State.BoundsOk.nextByte {s : State} (h : s.BoundsOk) (hn : s.c + 8 ≤ 8 * s.inN) : s.nextByte.BoundsOk :=
  ⟨hn, h.out.congr rfl rfl rfl h.out.defined⟩

theorem State.BoundsOk.alignToByte {s : State} (h : s.BoundsOk) : s.alignToByte.BoundsOk := by
  refine ⟨?_, h.out.congr rfl rfl rfl h.out.defined⟩
  have hc : s.c ≤ 8 * s.inN := h.cursor
  rw [State.CursorOk, alignToByte_c, inN_alignToByte]
  omega

theorem State.BoundsOk.storedBlock {s : State} (h : s.BoundsOk) : Yields State.BoundsOk s.storedBlock := by
  have ha : 8 ∣ s.alignToByte.c := Nat.dvd_mul_right 8 _
  unfold State.storedBlock
  have hu := h.alignToByte
  generalize s.alignToByte = u at ha hu ⊢
  dsimp only
  split
  · exact yields_next.mpr (hu.raise _)
  · next hlen =>
    have h1 := hu.nextByte (by omega)
    have h2 := h1.nextByte (by simp only [nextByte_c, inN_nextByte]; omega)
    have h3 := h2.nextByte (by simp only [nextByte_c, inN_nextByte]; omega)
    have h4 := h3.nextByte (by simp only [nextByte_c, inN_nextByte]; omega)
    exact h4.storedData (by simp only [nextByte_c]; omega) _ _

theorem State.BoundsOk.fixedBlock {s : State} (h : s.BoundsOk) : Yields State.BoundsOk s.fixedBlock := by
  unfold State.fixedBlock
  split
  · exact yields_next.mpr h.congr
  · exact State.BoundsOk.buildCodes h.congr
      fun u hu => yields_next.mpr hu.congr

theorem State.BoundsOk.dynamicBlock {s : State} (h : s.BoundsOk) (hlit hdist : BitVec 5) (hclen : BitVec 4) :
    Yields State.BoundsOk (s.dynamicBlock hlit hdist hclen) :=
  (h.fetchedFrom s.refill_fetchedFrom).consume fun h1 =>
    State.BoundsOk.consume h1.congr fun h2 =>
      State.BoundsOk.consume h2.congr fun h3 =>
        yields_next.mpr h3.congr

/-- The lengths that are not present are cleared in `precode_lens` only (42 R520). -/
theorem State.clearPrecodeLens_frame (n i : Nat) (s : State) :
    State.clearPrecodeLens n i s = { s with precodeLens := (State.clearPrecodeLens n i s).precodeLens } := by
  induction n generalizing i s with
  | zero => rfl
  | succ n ih => rw [State.clearPrecodeLens, ih]; rfl

theorem State.BoundsOk.afterPrecodeLen {s : State} (h : s.BoundsOk) : Yields State.BoundsOk s.afterPrecodeLen := by
  obtain ⟨-, he⟩ | ⟨-, he⟩ := s.afterPrecodeLen_cases <;> rw [he]
  · exact yields_next.mpr h
  · rw [State.clearPrecodeLens_frame]
    exact State.BoundsOk.buildPrecode h.congr
      fun u hu => yields_next.mpr hu.congr

theorem State.BoundsOk.writeRun {s : State} (h : s.BoundsOk) (r : Nat) (v : BitVec 4) :
    Yields State.BoundsOk (s.writeRun r v) := by
  unfold State.writeRun
  set u : State := { s with lens := setRun v r s.index s.lens, index := s.index + r }
  have hu : u.BoundsOk := h.congr
  obtain ⟨-, he⟩ | ⟨-, he⟩ | ⟨-, he⟩ := u.afterLens_cases <;> rw [he]
  · exact yields_next.mpr hu
  · exact yields_next.mpr (hu.raise _)
  · exact hu.buildCodes fun w hw => yields_next.mpr hw.congr

theorem State.BoundsOk.doMatch {s : State} (h : s.BoundsOk) (offset : Nat) :
    Yields State.BoundsOk (s.doMatch offset) := by
  obtain ⟨-, he⟩ | ⟨-, -, he⟩ | ⟨-, room, ⟨-, he⟩ | ⟨t, ht, he⟩⟩ := s.doMatch_cases offset <;> rw [he]
  · exact yields_next.mpr (h.raise _)
  · exact yields_next.mpr (h.raise _)
  · exact yields_fault
  · have hout := h.out.copyMatch room ht
    rw [State.copyMatch_frame ht] at hout ⊢
    exact yields_next.mpr ⟨h.cursor, hout.congr rfl rfl rfl hout.defined⟩

/-- Every element keeps the bounds. -/
theorem Element.boundsOk {s : State} {o : Out} (he : Element s o) (h : s.BoundsOk) : Yields State.BoundsOk o := by
  cases he with
  | blockStored _ final => exact h.blockHeader fun _ hu => hu.storedBlock
  | blockFixed _ final => exact h.blockHeader fun _ hu => hu.fixedBlock
  | blockDynamic _ final hlit hdist hclen => exact h.blockHeader fun _ hu => hu.dynamicBlock hlit hdist hclen
  | blockReserved _ final => exact h.blockHeader fun _ hu => yields_next.mpr (hu.raise _)
  | pcl _ l => exact h.consume fun h1 => State.BoundsOk.afterPrecodeLen h1.congr
  | cl _ cw n => exact h.consume fun h1 => h1.writeRun _ _
  | clRepPrev _ cw x =>
    refine h.consume fun h1 => ?_
    split
    · exact yields_next.mpr (h1.raise _)
    · exact h1.consume fun h2 => h2.writeRun _ _
  | clZero _ cw x => exact h.consume fun h1 => h1.consume fun h2 => h2.writeRun _ _
  | clZeroLong _ cw x => exact h.consume fun h1 => h1.consume fun h2 => h2.writeRun _ _
  | lit _ cw b =>
    refine h.consume fun h1 => ?_
    split
    · exact yields_next.mpr (h1.raise _)
    · next hne =>
      have room := Nat.lt_of_le_of_ne h1.out.bound fun heq => hne (BitVec.eq_of_toNat_eq heq)
      exact yields_next.mpr ⟨h1.cursor, h1.out.emit b room⟩
  | eob _ cw => exact h.consume fun h1 => yields_next.mpr h1.endBlock
  | length _ bits length => exact h.consume fun h1 => yields_next.mpr h1.congr
  | reservedLength _ => exact yields_next.mpr (h.raise _)
  | offset _ bits offset => exact h.consume fun h1 => h1.doMatch offset
  | reservedOffset _ => exact yields_next.mpr (h.raise _)

/-- Every step keeps the bounds. -/
theorem step_boundsOk {s : State} (h : s.BoundsOk) : Yields State.BoundsOk (step s) :=
  step_yields (idle := fun _ _ => h)
    (refused := h.congr)
    (reset := fun _ => h.congr)
    (accepted := fun m a b _ _ => State.BoundsOk.accept _ a b m.inBytes m.outN)
    (overread := fun _ _ _ hu => (h.fetchedFrom hu).raise _)
    (element := fun _ _ _ _ hu he => he.boundsOk (h.fetchedFrom hu))

/-- Settles O54: every operation that moves the cursor or writes OUT checks its room first, so each element keeps the
bounds. -/
theorem cursorAndOutputBoundsKept : Obligations.CursorAndOutputBoundsKept := by
  intro s t hc ho ht
  obtain ⟨hc', ho'⟩ := step_boundsOk ⟨hc, ho⟩ t ht
  exact ⟨hc', ho'⟩

end Sys2Proof.Machine

/-! PROOFS. The flag `static_codes_loaded` tells the truth about the tables (10 R107). -/

namespace Sys2Proof.Machine
open Sys2Proof

/-! ### The two halves of the flag's invariant -/

/-- 10 R107 without what 42 R518 adds for a dynamic header: the flag says that the fixed tables are loaded. -/
def State.LoadedOk (s : State) : Prop := s.staticCodesLoaded = true → s.FixedLoaded

theorem State.LoadedOk.congr {s t : State} (h : s.LoadedOk)
    (flag : t.staticCodesLoaded = s.staticCodesLoaded := by rfl) (offset : t.offsetTable = s.offsetTable := by rfl)
    (litlen : t.litlenTable = s.litlenTable := by rfl) (bits : t.litlenTablebits = s.litlenTablebits := by rfl) :
    t.LoadedOk := by
  unfold State.LoadedOk State.FixedLoaded
  rw [flag, offset, litlen, bits]
  exact h

theorem State.LoadedOk.flagOk_of_idle {s : State} (h : s.LoadedOk) (hb : s.busy = false) : s.FlagOk :=
  ⟨h, fun hb' => absurd hb' (by simp [hb])⟩

/-- Outside a dynamic header the flag need only be true of the tables. -/
theorem State.LoadedOk.flagOk_of_phase {s : State} (h : s.LoadedOk)
    (hp : s.phase = .blockHeader ∨ s.phase = .body ∨ s.phase = .offset) : s.FlagOk :=
  ⟨h, fun _ hp' => by rcases hp with hp | hp | hp <;> simp [hp] at hp'⟩

theorem State.flagOk_of_notLoaded {s : State} (h : s.staticCodesLoaded = false) : s.FlagOk :=
  ⟨fun h' => absurd h' (by simp [h]), fun _ _ => h⟩

theorem State.LoadedOk.raise {s : State} (h : s.LoadedOk) (e : Cause) : (s.raise e).FlagOk :=
  State.LoadedOk.flagOk_of_idle h.congr rfl

theorem State.LoadedOk.endBlock {s : State} (h : s.LoadedOk) : s.endBlock.FlagOk := by
  cases hf : s.final
  · rw [State.endBlock_of_not_final hf]
    exact State.LoadedOk.flagOk_of_phase h.congr (.inl rfl)
  · rw [State.endBlock_of_final hf]
    exact State.LoadedOk.flagOk_of_idle h.congr rfl

theorem State.LoadedOk.consume {s : State} {n : Nat} {k : State → Out} (h : s.LoadedOk)
    (hk : (s.advance n).LoadedOk → Yields State.FlagOk (k (s.advance n))) :
    Yields State.FlagOk (s.consume n k) :=
  State.consume_yields (h.raise _) fun _ => hk h.congr

/-! ### Block headers -/

theorem State.LoadedOk.blockHeader {s : State} {final : Bool} {k : State → Out} (h : s.LoadedOk)
    (hk : ∀ u, u.LoadedOk → Yields State.FlagOk (k u)) : Yields State.FlagOk (s.blockHeader final k) :=
  h.consume fun h1 => State.LoadedOk.consume h1.congr (hk _)

theorem State.LoadedOk.storedData {s : State} (h : s.LoadedOk) (len nlen : BitVec 16) :
    Yields State.FlagOk (s.storedData len nlen) := by
  obtain ⟨-, he⟩ | ⟨-, -, he⟩ | ⟨-, -, -, he⟩ | ⟨-, -, -, he⟩ := s.storedData_cases len nlen <;> rw [he, yields_next]
  · exact h.raise _
  · exact h.raise _
  · exact h.raise _
  · rw [State.copyStored_frame]
    exact State.LoadedOk.endBlock h.congr

theorem State.LoadedOk.readHalf {s : State} {k : BitVec 16 → State → Out} (h : s.LoadedOk)
    (hk : ∀ v u, u.LoadedOk → Yields State.FlagOk (k v u)) : Yields State.FlagOk (s.readHalf k) :=
  hk _ _ h.congr

theorem State.LoadedOk.storedBlock {s : State} (h : s.LoadedOk) : Yields State.FlagOk s.storedBlock := by
  unfold State.storedBlock
  dsimp only
  split
  · exact yields_next.mpr (State.LoadedOk.raise h.congr _)
  · exact State.LoadedOk.readHalf h.congr fun len _ h1 => h1.readHalf fun nlen _ h2 => h2.storedData len nlen

/-- The fixed code has 288 lit/len and 32 offset lengths (42 R511). -/
theorem fixedLens_length : ((fixedLitlenLens ++ fixedOffsetLens).map (BitVec.ofNat 4)).length = 320 := by
  decide +kernel

/-- The lengths that the two builds of 42 R511 read, whatever `lens` held before. -/
theorem State.fixedLengths_lens_take (s : State) :
    s.fixedLengths.lens.take 320 = (fixedLitlenLens ++ fixedOffsetLens).map (BitVec.ofNat 4) := by
  have h := overlay_take ((fixedLitlenLens ++ fixedOffsetLens).map (BitVec.ofNat 4)) s.lens
  rwa [fixedLens_length] at h

theorem State.fixedLengths_litlenLengths (s : State) : s.fixedLengths.litlenLengths = fixedLitlenLens := by
  show (s.fixedLengths.lens.take 288).map BitVec.toNat = _
  rw [show s.fixedLengths.lens.take 288 = (s.fixedLengths.lens.take 320).take 288 by rw [List.take_take]; rfl,
    fixedLengths_lens_take]
  decide +kernel

theorem State.fixedLengths_offsetLengths (s : State) : s.fixedLengths.offsetLengths = fixedOffsetLens := by
  show ((s.fixedLengths.lens.drop 288).take 32).map BitVec.toNat = _
  rw [List.take_drop, fixedLengths_lens_take]
  decide +kernel

/-- 41 R470: the sizes of the two fixed tables. -/
theorem fixedOffsetTable_length {t : List Entry} (h : buildOffsetTable fixedOffsetLens = .ok t) : t.length = 256 := by
  have hn : (buildOffsetTable fixedOffsetLens).map List.length = .ok 256 := by decide +kernel
  rw [h] at hn
  exact Except.ok.inj hn

theorem fixedLitlenTable_length {t : List Entry} (h : buildLitlenTable fixedLitlenLens = .ok t) : t.length = 512 := by
  have hn : (buildLitlenTable fixedLitlenLens).map List.length = .ok 512 := by decide +kernel
  rw [h] at hn
  exact Except.ok.inj hn

theorem fixedLitlen_rootBits : litlenRootBits fixedLitlenLens = 9 := by decide +kernel

/-- What the two builds of 42 R511 leave in the tables is what the flag stands for. -/
theorem State.fixedLoaded_of_builds {s : State} {t u : List Entry}
    (ht : buildOffsetTable s.fixedLengths.offsetLengths = .ok t)
    (hu : buildLitlenTable (s.fixedLengths.withOffset t).litlenLengths = .ok u) :
    ((s.fixedLengths.withOffset t).withLitlen u).FixedLoaded := by
  rw [withOffset_litlenLengths, fixedLengths_litlenLengths] at hu
  rw [fixedLengths_offsetLengths] at ht
  refine ⟨?_, ?_, ?_⟩
  · rw [ht, ← fixedOffsetTable_length ht]
    exact congrArg Except.ok (overlay_take t _).symm
  · rw [hu, ← fixedLitlenTable_length hu]
    exact congrArg Except.ok (overlay_take u _).symm
  · show BitVec.ofNat 4 (litlenRootBits (s.fixedLengths.withOffset t).litlenLengths) = 9
    rw [withOffset_litlenLengths, fixedLengths_litlenLengths, fixedLitlen_rootBits]
    rfl

/-- A fixed block loads the tables before it sets the flag; while they are built the flag is 0 (42 R511). -/
theorem State.LoadedOk.fixedBlock {s : State} (h : s.LoadedOk) : Yields State.FlagOk s.fixedBlock := by
  unfold State.fixedBlock
  split
  · exact yields_next.mpr (State.LoadedOk.flagOk_of_phase h.congr (.inr (.inl rfl)))
  · next hflag =>
    have hflag : s.staticCodesLoaded = false := by simpa using hflag
    refine State.buildOffset_yields (fun t ht => State.buildLitlen_yields (fun u hu => ?_) fun _ => ?_) fun _ => ?_
    · have hl := State.fixedLoaded_of_builds ht hu
      exact yields_next.mpr (State.LoadedOk.flagOk_of_phase (fun _ => hl) (.inr (.inl rfl)))
    · exact State.failLitlen_yields fun _ _ _ _ _ _ => State.flagOk_of_notLoaded hflag
    · exact State.failOffset_yields fun _ _ _ _ => State.flagOk_of_notLoaded hflag

theorem State.LoadedOk.dynamicBlock {s : State} (h : s.LoadedOk) (hlit hdist : BitVec 5) (hclen : BitVec 4) :
    Yields State.FlagOk (s.dynamicBlock hlit hdist hclen) :=
  State.LoadedOk.consume h.congr fun h1 => State.LoadedOk.consume h1.congr fun h2 =>
    State.LoadedOk.consume h2.congr fun _ => yields_next.mpr (State.flagOk_of_notLoaded rfl)

/-! ### Code lengths: the flag is 0 and stays 0 -/

/-- The flag is 0, as it is from a dynamic header's counts on (42 R518). -/
def State.NotLoaded (s : State) : Prop := s.staticCodesLoaded = false

theorem State.NotLoaded.consume {s : State} {n : Nat} {k : State → Out} (h : s.NotLoaded)
    (hk : (s.advance n).NotLoaded → Yields State.NotLoaded (k (s.advance n))) :
    Yields State.NotLoaded (s.consume n k) :=
  State.consume_yields h fun _ => hk h

theorem State.NotLoaded.afterPrecodeLen {s : State} (h : s.NotLoaded) : Yields State.NotLoaded s.afterPrecodeLen := by
  obtain ⟨-, he⟩ | ⟨-, he⟩ := s.afterPrecodeLen_cases <;> rw [he]
  · exact yields_next.mpr h
  · rw [State.clearPrecodeLens_frame]
    exact State.buildPrecode_yields (fun _ _ => yields_next.mpr h)
      fun _ => State.failPrecode_yields fun _ _ _ _ => h

theorem State.NotLoaded.writeRun {s : State} (h : s.NotLoaded) (r : Nat) (v : BitVec 4) :
    Yields State.NotLoaded (s.writeRun r v) := by
  unfold State.writeRun
  obtain ⟨-, he⟩ | ⟨-, he⟩ | ⟨-, he⟩ := State.afterLens_cases _ <;> rw [he]
  · exact yields_next.mpr h
  · exact yields_next.mpr h
  · exact State.buildOffset_yields
      (fun _ _ => State.buildLitlen_yields (fun _ _ => yields_next.mpr h)
        fun _ => State.failLitlen_yields fun _ _ _ _ _ _ => h)
      fun _ => State.failOffset_yields fun _ _ _ _ => h

theorem Yields.flagOk {o : Out} (h : Yields State.NotLoaded o) : Yields State.FlagOk o :=
  fun t ht => State.flagOk_of_notLoaded (h t ht)

/-! ### The body -/

theorem State.LoadedOk.doMatch {s : State} (h : s.LoadedOk) (offset : Nat) : Yields State.FlagOk (s.doMatch offset) := by
  obtain ⟨-, he⟩ | ⟨-, -, he⟩ | ⟨-, -, ⟨-, he⟩ | ⟨t, ht, he⟩⟩ := s.doMatch_cases offset <;> rw [he]
  · exact yields_next.mpr (h.raise _)
  · exact yields_next.mpr (h.raise _)
  · exact yields_fault
  · rw [State.copyMatch_frame ht]
    exact yields_next.mpr (State.LoadedOk.flagOk_of_phase h.congr (.inr (.inl rfl)))

/-! ### Elements and steps -/

/-- Every element of a running command keeps the flag's invariant. -/
theorem Element.flagOk {s : State} {o : Out} (he : Element s o) (hb : s.busy = true) (h : s.FlagOk) :
    Yields State.FlagOk o := by
  have hl : s.LoadedOk := h.loaded
  cases he with
  | blockStored _ final => exact hl.blockHeader fun _ hu => hu.storedBlock
  | blockFixed _ final => exact hl.blockHeader fun _ hu => hu.fixedBlock
  | blockDynamic _ final hlit hdist hclen => exact hl.blockHeader fun _ hu => hu.dynamicBlock hlit hdist hclen
  | blockReserved _ final => exact hl.blockHeader fun _ hu => yields_next.mpr (hu.raise _)
  | pcl hp l =>
    have hn : s.NotLoaded := h.cleared hb (.inl hp)
    exact Yields.flagOk (hn.consume fun h1 => State.NotLoaded.afterPrecodeLen h1)
  | cl hp cw n =>
    have hn : s.NotLoaded := h.cleared hb (.inr hp)
    exact Yields.flagOk (hn.consume fun h1 => h1.writeRun _ _)
  | clRepPrev hp cw x =>
    have hn : s.NotLoaded := h.cleared hb (.inr hp)
    refine Yields.flagOk (hn.consume fun h1 => ?_)
    split
    · exact yields_next.mpr h1
    · exact h1.consume fun h2 => h2.writeRun _ _
  | clZero hp cw x =>
    have hn : s.NotLoaded := h.cleared hb (.inr hp)
    exact Yields.flagOk (hn.consume fun h1 => h1.consume fun h2 => h2.writeRun _ _)
  | clZeroLong hp cw x =>
    have hn : s.NotLoaded := h.cleared hb (.inr hp)
    exact Yields.flagOk (hn.consume fun h1 => h1.consume fun h2 => h2.writeRun _ _)
  | lit hp cw b =>
    refine hl.consume fun h1 => ?_
    split
    · exact yields_next.mpr (h1.raise _)
    · exact yields_next.mpr (State.LoadedOk.flagOk_of_phase h1.congr (.inr (.inl hp)))
  | eob _ cw => exact hl.consume fun h1 => yields_next.mpr h1.endBlock
  | length _ bits length =>
    exact hl.consume fun h1 => yields_next.mpr (State.LoadedOk.flagOk_of_phase h1.congr (.inr (.inr rfl)))
  | reservedLength _ => exact yields_next.mpr (hl.raise _)
  | offset _ bits offset => exact hl.consume fun h1 => h1.doMatch offset
  | reservedOffset _ => exact yields_next.mpr (hl.raise _)

theorem State.FlagOk.fetchedFrom {s u : State} (h : s.FlagOk) (hu : s.FetchedFrom u) : u.FlagOk := by
  obtain ⟨c, dp, -, -⟩ := hu
  exact ⟨h.loaded, h.cleared⟩

theorem step_flagOk {s : State} (h : s.FlagOk) : Yields State.FlagOk (step s) :=
  have hl : s.LoadedOk := h.loaded
  step_yields (idle := fun _ _ => h)
    (refused := ⟨h.loaded, h.cleared⟩)
    (reset := fun _ => State.flagOk_of_notLoaded rfl)
    (accepted := fun _ _ _ _ _ => State.LoadedOk.flagOk_of_phase hl.congr (.inl rfl))
    (overread := fun _ _ _ hu => State.LoadedOk.raise (h.fetchedFrom hu).loaded _)
    (element := fun _ _ _ hb hu he => he.flagOk (hu.busy.trans hb) (h.fetchedFrom hu))

/-- Settles O55: only a fixed block's two builds set the flag, and what writes a table finds it 0. -/
theorem flagInvariantKept : Obligations.FlagInvariantKept :=
  fun _ t h ht => step_flagOk h t ht

end Sys2Proof.Machine

/-! PROOFS. How many entries a build gives (41 R450 to R465) and how many symbols it sorts (41 R455). -/

namespace Sys2Proof.Machine
open Sys2Proof

/-! ### The filled table has `curEnd` entries -/

/-- The table holds exactly its first `curEnd` entries. -/
def Fill.Exact (f : Fill) : Prop := f.table.length = f.curEnd

theorem Fill.Exact.mirror {f : Fill} (n : Nat) (h : f.Exact) : (f.mirror n).Exact := by
  induction n generalizing f with
  | zero => exact h
  | succ n ih =>
    refine ih ?_
    have h : f.table.length = f.curEnd := h
    show (f.table ++ f.table).length = 2 * f.curEnd
    rw [List.length_append, h, Nat.two_mul]

/-- Writing an entry does not change the size. -/
theorem Fill.Exact.set {f : Fill} (h : f.Exact) (i : Nat) (e : Entry) : Fill.Exact { f with table := f.table.set i e } := by
  rw [Fill.Exact, List.length_set]
  exact h

theorem fillMain_exact (mk : Nat → Nat → Entry) (T : Nat) (syms : List (Nat × Nat)) (len : Nat) {f : Fill}
    (h : f.Exact) : (fillMain mk T syms len f).1.Exact := by
  induction syms generalizing len f with
  | nil => exact h.mirror _
  | cons p rest ih =>
    obtain ⟨s, l⟩ := p
    simp only [fillMain]
    split
    · exact h.mirror _
    · split
      · exact ((h.mirror _).set _ _).mirror _
      · exact ih l ((h.mirror _).set _ _)

@[simp] theorem fillStride_length (e : Entry) (step n j : Nat) (t : List Entry) :
    (fillStride e step n j t).length = t.length := by
  induction n generalizing j t with
  | zero => rfl
  | succ n ih => rw [fillStride, ih, List.length_set]

/-- A subtable's slots go behind the table, and its pointer into it (41 R461, R463). -/
theorem Fill.Exact.grow {f : Fill} (h : f.Exact) (n i : Nat) (e : Entry) : Fill.Exact
    { f with table := f.table.set i e ++ List.replicate n default, curEnd := f.curEnd + n } := by
  rw [Fill.Exact, List.length_append, List.length_set, List.length_replicate, h]

theorem openSub_exact (lens : List Nat) (T l cnt : Nat) (cur : Option Sub) {f : Fill} (h : f.Exact) :
    (openSub lens T l cnt cur f).2.Exact := by
  unfold openSub
  dsimp only
  split
  · split
    · exact h
    · exact h.grow _ _ _
  · exact h.grow _ _ _

theorem fillSub_exact (lens : List Nat) (mk : Nat → Nat → Entry) (T : Nat) (syms : List (Nat × Nat)) (cur : Option Sub)
    {f : Fill} (h : f.Exact) : (fillSub lens mk T syms cur f).Exact := by
  induction syms generalizing cur f with
  | nil => exact h
  | cons p rest ih =>
    obtain ⟨s, l⟩ := p
    have ho := openSub_exact lens T l (1 + rest.countP fun p => p.2 = l) cur h
    simp only [fillSub]
    split
    · rw [Fill.Exact, fillStride_length]; exact ho
    · refine ih _ ?_
      rw [Fill.Exact, fillStride_length]; exact ho

theorem fillTable_exact (lens : List Nat) (mk : Nat → Nat → Entry) (T L : Nat) : (fillTable lens mk T L).Exact :=
  fillSub_exact _ _ _ _ _ (fillMain_exact _ _ _ _ List.length_replicate)

/-- A build that gives a table gives no more entries than its table has, if the root table fits (41 R465). -/
theorem buildTable_length_le {lens : List Nat} {mk : Nat → Nat → Entry} {T L enough : Nat} {t : List Entry}
    (root : 2 ^ T ≤ enough) (h : buildTable lens mk T L enough = .ok t) : t.length ≤ enough := by
  simp only [buildTable] at h
  split at h
  · cases h
  split at h
  · split at h
    · cases h; simpa using root
    split at h <;> cases h
    simpa using root
  · split at h <;> cases h
    next hle => rw [fillTable_exact lens mk T L]; exact hle

theorem buildPrecodeTable_length_le {lens : List Nat} {t : List Entry} (h : buildPrecodeTable lens = .ok t) :
    t.length ≤ 128 :=
  buildTable_length_le (by decide) h

theorem buildOffsetTable_length_le {lens : List Nat} {t : List Entry} (h : buildOffsetTable lens = .ok t) :
    t.length ≤ 402 :=
  buildTable_length_le (by decide) h

/-- 41 R452: the lit/len root width is at most 11. -/
theorem litlenRootBits_le (lens : List Nat) : litlenRootBits lens ≤ 11 := Nat.min_le_left _ _

theorem litlenRootBits_toNat_le (lens : List Nat) : (BitVec.ofNat 4 (litlenRootBits lens)).toNat ≤ 11 := by
  have := litlenRootBits_le lens
  rw [BitVec.toNat_ofNat]
  omega

theorem buildLitlenTable_length_le {lens : List Nat} {t : List Entry} (h : buildLitlenTable lens = .ok t) :
    t.length ≤ 2342 := by
  refine buildTable_length_le ?_ h
  calc 2 ^ litlenRootBits lens ≤ 2 ^ 11 := Nat.pow_le_pow_right (by decide) (litlenRootBits_le lens)
    _ ≤ 2342 := by decide

/-! ### The sorted symbols -/

/-- The symbols of one length are as many as that length occurs. -/
theorem length_symbolsOfLength (lens : List Nat) (l : Nat) :
    (lens.zipIdx.filterMap fun p => if p.1 = l then some (p.2, l) else none).length = lens.count l := by
  have hsome : (fun p : Nat × Nat => (if p.1 = l then some (p.2, l) else none).isSome) = (fun x => x == l) ∘ Prod.fst := by
    funext p
    by_cases h : p.1 = l <;> simp [h]
  rw [List.length_filterMap_eq_countP, hsome, ← List.countP_map, List.zipIdx_map_fst, List.count]

/-- The symbols of length up to `L + 1`, by length. -/
theorem countP_length_succ (lens : List Nat) (L : Nat) :
    (lens.countP fun l => 1 ≤ l ∧ l ≤ L + 1) = (lens.countP fun l => 1 ≤ l ∧ l ≤ L) + lens.count (L + 1) := by
  induction lens with
  | nil => rfl
  | cons l lens ih =>
    simp only [List.countP_cons, List.count_cons, ih, decide_eq_true_eq, beq_iff_eq]
    split_ifs <;> omega

/-- 41 R455: the sorted symbols are those of length 1 to `L`. -/
theorem sortSyms_length (lens : List Nat) (L : Nat) :
    (sortSyms lens L).length = lens.countP fun l => 1 ≤ l ∧ l ≤ L := by
  induction L with
  | zero =>
    symm
    rw [sortSyms, List.range_zero, List.flatMap_nil, List.length_nil, List.countP_eq_zero]
    intro l _
    simp only [decide_eq_true_eq]
    omega
  | succ L ih =>
    rw [countP_length_succ, ← ih, ← length_symbolsOfLength lens (L + 1)]
    simp [sortSyms, List.range_succ]

theorem sortSyms_length_le (lens : List Nat) (L : Nat) : (sortSyms lens L).length ≤ lens.length := by
  rw [sortSyms_length]
  exact List.countP_le_length

/-- `sorted_syms` keeps its size if it has room for the alphabet. -/
theorem installSorted_length {lens : List Nat} {L : Nat} {old : List (BitVec 9)} (h : lens.length ≤ old.length) :
    (installSorted lens L old).length = old.length := by
  refine overlay_length ?_
  rw [List.length_map]
  exact (sortSyms_length_le lens L).trans h

end Sys2Proof.Machine

/-! PROOFS. Every array keeps its size and every count its range (10 R101 to R108, R115), and the state after reset
keeps every invariant (10 R123). -/

namespace Sys2Proof.Machine
open Sys2Proof

/-! ### Sizes and ranges that hold in every phase -/

/-- The part of `State.Ranged` that does not ask where a dynamic header's loops stand. -/
structure State.Counted (s : State) : Prop where
  nlit      : s.nlit.toNat ≤ 288
  noff      : s.noff.toNat ≤ 32
  ncl       : s.ncl.toNat ≤ 19
  tablebits : s.litlenTablebits.toNat ≤ 11
  matchLen  : s.phase = .offset → 3 ≤ s.matchLen ∧ s.matchLen ≤ 258

/-- Array sizes and counts in range: what holds in the middle of an element too. -/
structure State.Shaped (s : State) : Prop where
  sized   : s.Sized
  counted : s.Counted

/-- What O53 keeps. -/
structure State.SizesOk (s : State) : Prop where
  sized  : s.Sized
  ranged : s.Ranged

theorem State.Ranged.counted {s : State} (h : s.Ranged) : s.Counted :=
  ⟨h.nlit, h.noff, h.ncl, h.tablebits, h.matchLen⟩

theorem State.SizesOk.shaped {s : State} (h : s.SizesOk) : s.Shaped := ⟨h.sized, h.ranged.counted⟩

/-- What O53 asks beyond the shape is where a dynamic header's loops stand. -/
theorem State.Shaped.sizesOk {s : State} (h : s.Shaped)
    (precodeLen : s.busy → s.phase = .precodeLen →
      257 ≤ s.nlit.toNat ∧ 1 ≤ s.noff.toNat ∧ 4 ≤ s.ncl.toNat ∧ s.index < s.ncl.toNat)
    (codeLen : s.busy → s.phase = .codeLen → 257 ≤ s.nlit.toNat ∧ 1 ≤ s.noff.toNat ∧ s.index < s.total) :
    s.SizesOk :=
  ⟨h.sized, h.counted.nlit, h.counted.noff, h.counted.ncl, h.counted.tablebits, precodeLen, codeLen,
    h.counted.matchLen⟩

/-- Once no command runs, no loop has a variable to keep. -/
theorem State.Shaped.sizesOk_of_idle {s : State} (h : s.Shaped) (hb : s.busy = false) : s.SizesOk :=
  h.sizesOk (fun hb' => absurd hb' (by simp [hb])) fun hb' => absurd hb' (by simp [hb])

/-- Outside a dynamic header's loops there is no more to keep. -/
theorem State.Shaped.sizesOk_of_phase {s : State} (h : s.Shaped)
    (hp : s.phase = .blockHeader ∨ s.phase = .body ∨ s.phase = .offset) : s.SizesOk :=
  h.sizesOk (fun _ hp' => absurd hp (by simp [hp'])) fun _ hp' => absurd hp (by simp [hp'])

/-- In the loop of 42 R520. -/
theorem State.Shaped.sizesOk_of_precodeLen {s : State} (h : s.Shaped) (hp : s.phase = .precodeLen)
    (hnlit : 257 ≤ s.nlit.toNat) (hnoff : 1 ≤ s.noff.toNat) (hncl : 4 ≤ s.ncl.toNat) (hi : s.index < s.ncl.toNat) :
    s.SizesOk :=
  h.sizesOk (fun _ _ => ⟨hnlit, hnoff, hncl, hi⟩) fun _ hp' => absurd hp (by simp [hp'])

/-- In the loop of 42 R522. -/
theorem State.Shaped.sizesOk_of_codeLen {s : State} (h : s.Shaped) (hp : s.phase = .codeLen)
    (hnlit : 257 ≤ s.nlit.toNat) (hnoff : 1 ≤ s.noff.toNat) (hi : s.index < s.total) : s.SizesOk :=
  h.sizesOk (fun _ hp' => absurd hp (by simp [hp'])) fun _ _ => ⟨hnlit, hnoff, hi⟩

/-- What writes no array keeps the sizes. -/
theorem State.Sized.congr {s t : State} (h : s.Sized) (precodeLens : t.precodeLens = s.precodeLens := by rfl)
    (lens : t.lens = s.lens := by rfl) (precodeTable : t.precodeTable = s.precodeTable := by rfl)
    (litlenTable : t.litlenTable = s.litlenTable := by rfl) (offsetTable : t.offsetTable = s.offsetTable := by rfl)
    (sortedSyms : t.sortedSyms = s.sortedSyms := by rfl) : t.Sized :=
  ⟨precodeLens ▸ h.precodeLens, lens ▸ h.lens, precodeTable ▸ h.precodeTable, litlenTable ▸ h.litlenTable,
    offsetTable ▸ h.offsetTable, sortedSyms ▸ h.sortedSyms⟩

theorem State.Counted.congr {s t : State} (h : s.Counted) (nlit : t.nlit = s.nlit := by rfl)
    (noff : t.noff = s.noff := by rfl) (ncl : t.ncl = s.ncl := by rfl)
    (bits : t.litlenTablebits = s.litlenTablebits := by rfl) (phase : t.phase = s.phase := by rfl)
    (matchLen : t.matchLen = s.matchLen := by rfl) : t.Counted :=
  ⟨nlit ▸ h.nlit, noff ▸ h.noff, ncl ▸ h.ncl, bits ▸ h.tablebits, by rw [phase, matchLen]; exact h.matchLen⟩

theorem State.Shaped.raise {s : State} (h : s.Shaped) (e : Cause) : (s.raise e).SizesOk :=
  State.Shaped.sizesOk_of_idle ⟨h.sized.congr, h.counted.congr⟩ rfl

/-- Entering a phase that is not an offset symbol's. -/
theorem State.Shaped.enter {s : State} (h : s.Shaped) {p : Phase} (hp : p ≠ .offset) :
    State.Shaped { s with phase := p } :=
  ⟨h.sized.congr, h.counted.nlit, h.counted.noff, h.counted.ncl, h.counted.tablebits, fun hp' => absurd hp' hp⟩

theorem State.Shaped.endBlock {s : State} (h : s.Shaped) : s.endBlock.SizesOk := by
  cases hf : s.final
  · rw [State.endBlock_of_not_final hf]
    exact (h.enter (by decide)).sizesOk_of_phase (.inl rfl)
  · rw [State.endBlock_of_final hf]
    exact State.Shaped.sizesOk_of_idle ⟨h.sized.congr, h.counted.congr⟩ rfl

theorem State.Shaped.advance {s : State} (h : s.Shaped) (n : Nat) : (s.advance n).Shaped :=
  ⟨h.sized.congr, h.counted.congr⟩

theorem State.Shaped.consume {s : State} {n : Nat} {k : State → Out} (h : s.Shaped)
    (hk : (s.advance n).Shaped → Yields State.SizesOk (k (s.advance n))) : Yields State.SizesOk (s.consume n k) :=
  State.consume_yields (h.raise _) fun _ => hk (h.advance n)

/-! ### Builds -/

theorem State.Shaped.litlenLengths_length_le {s : State} (h : s.Shaped) : s.litlenLengths.length ≤ 288 := by
  rw [State.litlenLengths, List.length_map, List.length_take]
  have := h.counted.nlit
  omega

theorem State.Shaped.offsetLengths_length_le {s : State} (h : s.Shaped) : s.offsetLengths.length ≤ 288 := by
  rw [State.offsetLengths, List.length_map, List.length_take]
  have := h.counted.noff
  omega

theorem State.Shaped.precodeLengths_length_le {s : State} (h : s.Shaped) : s.precodeLengths.length ≤ 288 := by
  rw [State.precodeLengths, List.length_map, h.sized.precodeLens]
  decide

theorem State.Shaped.installSorted_length {s : State} (h : s.Shaped) {lens : List Nat} {L : Nat}
    (hl : lens.length ≤ 288) : (installSorted lens L s.sortedSyms).length = 288 :=
  (Machine.installSorted_length (by rw [h.sized.sortedSyms]; exact hl)).trans h.sized.sortedSyms

theorem State.Shaped.withPrecode {s : State} {t : List Entry} (h : s.Shaped)
    (ht : buildPrecodeTable s.precodeLengths = .ok t) : (s.withPrecode t).Shaped where
  sized :=
    { precodeLens := h.sized.precodeLens, lens := h.sized.lens
      precodeTable := (overlay_length (h.sized.precodeTable ▸ buildPrecodeTable_length_le ht)).trans h.sized.precodeTable
      litlenTable := h.sized.litlenTable, offsetTable := h.sized.offsetTable
      sortedSyms := h.installSorted_length h.precodeLengths_length_le }
  counted := h.counted.congr

theorem State.Shaped.withOffset {s : State} {t : List Entry} (h : s.Shaped)
    (ht : buildOffsetTable s.offsetLengths = .ok t) : (s.withOffset t).Shaped where
  sized :=
    { precodeLens := h.sized.precodeLens, lens := h.sized.lens, precodeTable := h.sized.precodeTable
      litlenTable := h.sized.litlenTable
      offsetTable := (overlay_length (h.sized.offsetTable ▸ buildOffsetTable_length_le ht)).trans h.sized.offsetTable
      sortedSyms := h.installSorted_length h.offsetLengths_length_le }
  counted := h.counted.congr

theorem State.Shaped.withLitlen {s : State} {t : List Entry} (h : s.Shaped)
    (ht : buildLitlenTable s.litlenLengths = .ok t) : (s.withLitlen t).Shaped where
  sized :=
    { precodeLens := h.sized.precodeLens, lens := h.sized.lens, precodeTable := h.sized.precodeTable
      litlenTable := (overlay_length (h.sized.litlenTable ▸ buildLitlenTable_length_le ht)).trans h.sized.litlenTable
      offsetTable := h.sized.offsetTable
      sortedSyms := h.installSorted_length h.litlenLengths_length_le }
  counted :=
    ⟨h.counted.nlit, h.counted.noff, h.counted.ncl, litlenRootBits_toNat_le s.litlenLengths, h.counted.matchLen⟩

/-- A failed build leaves arrays of the right sizes. -/
theorem State.Shaped.failPrecode {s : State} (h : s.Shaped) (e : Cause) : Yields State.SizesOk (s.failPrecode e) :=
  State.failPrecode_yields fun table syms ht hs =>
    State.Shaped.raise (s := { s with precodeTable := table, sortedSyms := syms })
      ⟨⟨h.sized.precodeLens, h.sized.lens, ht, h.sized.litlenTable, h.sized.offsetTable, hs⟩, h.counted.congr⟩ e

theorem State.Shaped.failOffset {s : State} (h : s.Shaped) (e : Cause) : Yields State.SizesOk (s.failOffset e) :=
  State.failOffset_yields fun table syms ht hs =>
    State.Shaped.raise (s := { s with offsetTable := table, sortedSyms := syms })
      ⟨⟨h.sized.precodeLens, h.sized.lens, h.sized.precodeTable, h.sized.litlenTable, ht, hs⟩, h.counted.congr⟩ e

theorem State.Shaped.failLitlen {s : State} (h : s.Shaped) (e : Cause) : Yields State.SizesOk (s.failLitlen e) :=
  State.failLitlen_yields fun table bits syms ht hb hs =>
    State.Shaped.raise (s := { s with litlenTable := table, litlenTablebits := bits, sortedSyms := syms })
      ⟨⟨h.sized.precodeLens, h.sized.lens, h.sized.precodeTable, ht, h.sized.offsetTable, hs⟩,
        h.counted.nlit, h.counted.noff, h.counted.ncl, hb ▸ litlenRootBits_toNat_le s.litlenLengths,
        h.counted.matchLen⟩ e

theorem State.Shaped.buildCodes {s : State} {k : State → Out} (h : s.Shaped)
    (hk : ∀ u, u.Shaped → Yields State.SizesOk (k u)) : Yields State.SizesOk (s.buildCodes k) :=
  State.buildOffset_yields
    (fun _ ht => State.buildLitlen_yields (fun _ hu => hk _ ((h.withOffset ht).withLitlen hu))
      fun e => (h.withOffset ht).failLitlen e)
    h.failOffset

/-! ### Block headers -/

theorem State.Shaped.blockHeader {s : State} {final : Bool} {k : State → Out} (h : s.Shaped)
    (hk : ∀ u, u.Shaped → Yields State.SizesOk (k u)) : Yields State.SizesOk (s.blockHeader final k) :=
  h.consume fun h1 => State.Shaped.consume ⟨h1.sized.congr, h1.counted.congr⟩ (hk _)

theorem State.Shaped.storedData {s : State} (h : s.Shaped) (len nlen : BitVec 16) :
    Yields State.SizesOk (s.storedData len nlen) := by
  obtain ⟨-, he⟩ | ⟨-, -, he⟩ | ⟨-, -, -, he⟩ | ⟨-, -, -, he⟩ := s.storedData_cases len nlen <;> rw [he, yields_next]
  · exact h.raise _
  · exact h.raise _
  · exact h.raise _
  · rw [State.copyStored_frame]
    exact State.Shaped.endBlock ⟨h.sized.congr, h.counted.congr⟩

theorem State.Shaped.readHalf {s : State} {k : BitVec 16 → State → Out} (h : s.Shaped)
    (hk : ∀ v u, u.Shaped → Yields State.SizesOk (k v u)) : Yields State.SizesOk (s.readHalf k) :=
  hk _ _ ⟨h.sized.congr, h.counted.congr⟩

theorem State.Shaped.storedBlock {s : State} (h : s.Shaped) : Yields State.SizesOk s.storedBlock := by
  have ha : s.alignToByte.Shaped := ⟨h.sized.congr, h.counted.congr⟩
  unfold State.storedBlock
  dsimp only
  split
  · exact yields_next.mpr (ha.raise _)
  · exact ha.readHalf fun len _ h1 => h1.readHalf fun nlen _ h2 => h2.storedData len nlen

/-- The fixed lengths fit into `lens`, and the two counts are the full alphabets (42 R511). -/
theorem State.Shaped.fixedLengths {s : State} (h : s.Shaped) : s.fixedLengths.Shaped where
  sized :=
    { precodeLens := h.sized.precodeLens
      lens := (overlay_length (by rw [fixedLens_length, h.sized.lens]; decide)).trans h.sized.lens
      precodeTable := h.sized.precodeTable, litlenTable := h.sized.litlenTable, offsetTable := h.sized.offsetTable
      sortedSyms := h.sized.sortedSyms }
  counted := ⟨Nat.le_refl 288, Nat.le_refl 32, h.counted.ncl, h.counted.tablebits, h.counted.matchLen⟩

theorem State.Shaped.fixedBlock {s : State} (h : s.Shaped) : Yields State.SizesOk s.fixedBlock := by
  unfold State.fixedBlock
  split
  · exact yields_next.mpr ((h.enter (by decide)).sizesOk_of_phase (.inr (.inl rfl)))
  · refine h.fixedLengths.buildCodes fun u hu => yields_next.mpr ?_
    have hb : State.Shaped { u with phase := .body } := hu.enter (by decide)
    exact State.Shaped.sizesOk_of_phase ⟨hb.sized.congr, hb.counted.congr⟩ (.inr (.inl rfl))

/-- Reading `nlit` and `noff` (42 R515, R516). -/
theorem State.Shaped.setNlit {s : State} (h : s.Shaped) {n : BitVec 9} (hn : n.toNat ≤ 288) :
    State.Shaped { s with nlit := n } :=
  ⟨h.sized.congr, hn, h.counted.noff, h.counted.ncl, h.counted.tablebits, h.counted.matchLen⟩

theorem State.Shaped.setNoff {s : State} (h : s.Shaped) {n : BitVec 6} (hn : n.toNat ≤ 32) :
    State.Shaped { s with noff := n } :=
  ⟨h.sized.congr, h.counted.nlit, hn, h.counted.ncl, h.counted.tablebits, h.counted.matchLen⟩

/-- The ranges of the three counts as they are read (42 R515 to R517). -/
theorem nlit_range (hlit : BitVec 5) :
    257 ≤ (BitVec.ofNat 9 (hlit.toNat + 257)).toNat ∧ (BitVec.ofNat 9 (hlit.toNat + 257)).toNat ≤ 288 := by
  rw [BitVec.toNat_ofNat]
  omega

theorem noff_range (hdist : BitVec 5) :
    1 ≤ (BitVec.ofNat 6 (hdist.toNat + 1)).toNat ∧ (BitVec.ofNat 6 (hdist.toNat + 1)).toNat ≤ 32 := by
  rw [BitVec.toNat_ofNat]
  omega

theorem ncl_range (hclen : BitVec 4) :
    4 ≤ (BitVec.ofNat 5 (hclen.toNat + 4)).toNat ∧ (BitVec.ofNat 5 (hclen.toNat + 4)).toNat ≤ 19 := by
  rw [BitVec.toNat_ofNat]
  omega

theorem State.Shaped.dynamicBlock {s : State} (h : s.Shaped) (hlit hdist : BitVec 5) (hclen : BitVec 4) :
    Yields State.SizesOk (s.dynamicBlock hlit hdist hclen) := by
  obtain ⟨hnlit, hnlit'⟩ := nlit_range hlit
  obtain ⟨hnoff, hnoff'⟩ := noff_range hdist
  obtain ⟨hncl, hncl'⟩ := ncl_range hclen
  have h0 : s.refill.Shaped := ⟨h.sized.congr, h.counted.congr⟩
  exact h0.consume fun h1 => State.Shaped.consume (h1.setNlit hnlit') fun h2 =>
    State.Shaped.consume (h2.setNoff hnoff') fun h3 => yields_next.mpr <| State.Shaped.sizesOk_of_precodeLen
      ⟨h3.sized.congr, h3.counted.nlit, h3.counted.noff, hncl', h3.counted.tablebits, fun hp => by cases hp⟩ rfl
      hnlit hnoff hncl (Nat.lt_of_lt_of_le (Nat.succ_pos 3) hncl)

/-! ### The loops of a dynamic header -/

theorem State.clearPrecodeLens_length (n i : Nat) (s : State) :
    (State.clearPrecodeLens n i s).precodeLens.length = s.precodeLens.length := by
  induction n generalizing i s with
  | zero => rfl
  | succ n ih => rw [State.clearPrecodeLens, ih, setPrecodeLen_precodeLens, List.length_set]

theorem State.Shaped.afterPrecodeLen {s : State} (h : s.Shaped) (hp : s.phase = .precodeLen)
    (hnlit : 257 ≤ s.nlit.toNat) (hnoff : 1 ≤ s.noff.toNat) (hncl : 4 ≤ s.ncl.toNat) :
    Yields State.SizesOk s.afterPrecodeLen := by
  obtain ⟨hi, he⟩ | ⟨-, he⟩ := s.afterPrecodeLen_cases <;> rw [he]
  · exact yields_next.mpr (h.sizesOk_of_precodeLen hp hnlit hnoff hncl hi)
  · have hlen := (State.clearPrecodeLens_length (Config.numPrecodeSyms - s.ncl.toNat) s.ncl.toNat s).trans
      h.sized.precodeLens
    rw [State.clearPrecodeLens_frame]
    generalize (State.clearPrecodeLens _ _ s).precodeLens = lens at hlen ⊢
    have hc : State.Shaped { s with precodeLens := lens } :=
      ⟨⟨hlen, h.sized.lens, h.sized.precodeTable, h.sized.litlenTable, h.sized.offsetTable, h.sized.sortedSyms⟩,
        h.counted.congr⟩
    refine State.buildPrecode_yields (fun t ht => yields_next.mpr ?_) hc.failPrecode
    have hb := (hc.withPrecode ht).enter (p := .codeLen) (by decide)
    refine State.Shaped.sizesOk_of_codeLen ⟨hb.sized.congr, hb.counted.congr⟩ rfl hnlit hnoff ?_
    show 0 < s.nlit.toNat + s.noff.toNat
    omega

theorem State.Shaped.writeRun {s : State} (h : s.Shaped) (hp : s.phase = .codeLen) (hnlit : 257 ≤ s.nlit.toNat)
    (hnoff : 1 ≤ s.noff.toNat) (r : Nat) (v : BitVec 4) : Yields State.SizesOk (s.writeRun r v) := by
  have hu : State.Shaped { s with lens := setRun v r s.index s.lens, index := s.index + r } :=
    ⟨⟨h.sized.precodeLens, (setRun_length v r s.index s.lens).trans h.sized.lens, h.sized.precodeTable,
      h.sized.litlenTable, h.sized.offsetTable, h.sized.sortedSyms⟩, h.counted.congr⟩
  unfold State.writeRun
  obtain ⟨hi, he⟩ | ⟨-, he⟩ | ⟨-, he⟩ := State.afterLens_cases _ <;> rw [he]
  · exact yields_next.mpr (hu.sizesOk_of_codeLen hp hnlit hnoff hi)
  · exact yields_next.mpr (hu.raise _)
  · exact hu.buildCodes fun w hw => yields_next.mpr ((hw.enter (by decide)).sizesOk_of_phase (.inr (.inl rfl)))

/-! ### The body -/

theorem State.Shaped.doMatch {s : State} (h : s.Shaped) (offset : Nat) : Yields State.SizesOk (s.doMatch offset) := by
  obtain ⟨-, he⟩ | ⟨-, -, he⟩ | ⟨-, -, ⟨-, he⟩ | ⟨t, ht, he⟩⟩ := s.doMatch_cases offset <;> rw [he]
  · exact yields_next.mpr (h.raise _)
  · exact yields_next.mpr (h.raise _)
  · exact yields_fault
  · rw [State.copyMatch_frame ht]
    have hb : State.Shaped { s with phase := .body } := h.enter (by decide)
    exact yields_next.mpr (State.Shaped.sizesOk_of_phase ⟨hb.sized.congr, hb.counted.congr⟩ (.inr (.inl rfl)))

/-! ### Elements and steps -/

/-- Every element of a running command keeps the sizes and the ranges. -/
theorem Element.sizesOk {s : State} {o : Out} (he : Element s o) (hb : s.busy = true) (h : s.SizesOk) :
    Yields State.SizesOk o := by
  have hs := h.shaped
  cases he with
  | blockStored _ final => exact hs.blockHeader fun _ hu => hu.storedBlock
  | blockFixed _ final => exact hs.blockHeader fun _ hu => hu.fixedBlock
  | blockDynamic _ final hlit hdist hclen => exact hs.blockHeader fun _ hu => hu.dynamicBlock hlit hdist hclen
  | blockReserved _ final => exact hs.blockHeader fun _ hu => yields_next.mpr (hu.raise _)
  | pcl hp l =>
    obtain ⟨hnlit, hnoff, hncl, -⟩ := h.ranged.precodeLen hb hp
    refine hs.consume fun h1 => State.Shaped.afterPrecodeLen ⟨?_, h1.counted.congr⟩ hp hnlit hnoff hncl
    exact ⟨(List.length_set ..).trans h1.sized.precodeLens, h1.sized.lens, h1.sized.precodeTable,
      h1.sized.litlenTable, h1.sized.offsetTable, h1.sized.sortedSyms⟩
  | cl hp cw n =>
    obtain ⟨hnlit, hnoff, -⟩ := h.ranged.codeLen hb hp
    exact hs.consume fun h1 => h1.writeRun hp hnlit hnoff _ _
  | clRepPrev hp cw x =>
    obtain ⟨hnlit, hnoff, -⟩ := h.ranged.codeLen hb hp
    refine hs.consume fun h1 => ?_
    split
    · exact yields_next.mpr (h1.raise _)
    · exact h1.consume fun h2 => h2.writeRun hp hnlit hnoff _ _
  | clZero hp cw x =>
    obtain ⟨hnlit, hnoff, -⟩ := h.ranged.codeLen hb hp
    exact hs.consume fun h1 => h1.consume fun h2 => h2.writeRun hp hnlit hnoff _ _
  | clZeroLong hp cw x =>
    obtain ⟨hnlit, hnoff, -⟩ := h.ranged.codeLen hb hp
    exact hs.consume fun h1 => h1.consume fun h2 => h2.writeRun hp hnlit hnoff _ _
  | lit hp cw b =>
    refine hs.consume fun h1 => ?_
    split
    · exact yields_next.mpr (h1.raise _)
    · exact yields_next.mpr (State.Shaped.sizesOk_of_phase ⟨h1.sized.congr, h1.counted.congr⟩ (.inr (.inl hp)))
  | eob _ cw => exact hs.consume fun h1 => yields_next.mpr h1.endBlock
  | length _ bits length hmin hmax =>
    refine hs.consume fun h1 => yields_next.mpr (State.Shaped.sizesOk_of_phase ?_ (.inr (.inr rfl)))
    exact ⟨h1.sized.congr, h1.counted.nlit, h1.counted.noff, h1.counted.ncl, h1.counted.tablebits,
      fun _ => ⟨hmin, hmax⟩⟩
  | reservedLength _ => exact yields_next.mpr (hs.raise _)
  | offset _ bits offset => exact hs.consume fun h1 => h1.doMatch offset
  | reservedOffset _ => exact yields_next.mpr (hs.raise _)

theorem State.SizesOk.fetchedFrom {s u : State} (h : s.SizesOk) (hu : s.FetchedFrom u) : u.SizesOk := by
  obtain ⟨c, dp, -, -⟩ := hu
  obtain ⟨hs, hr⟩ := h
  exact ⟨hs.congr, hr.nlit, hr.noff, hr.ncl, hr.tablebits, hr.precodeLen, hr.codeLen, hr.matchLen⟩

theorem State.reset_sized : State.reset.Sized :=
  ⟨List.length_replicate, List.length_replicate, List.length_replicate, List.length_replicate, List.length_replicate,
    List.length_replicate⟩

/-- A RESET writes the arrays and `litlen_tablebits`, and ends what ran (44 R701). -/
theorem State.Shaped.resetObject {s : State} (h : s.Shaped) : s.resetObject.SizesOk :=
  State.Shaped.sizesOk_of_idle
    ⟨State.reset_sized.congr, h.counted.nlit, h.counted.noff, h.counted.ncl, Nat.zero_le _, h.counted.matchLen⟩ rfl

theorem step_sizesOk {s : State} (h : s.SizesOk) : Yields State.SizesOk (step s) := by
  have hs := h.shaped
  have hr := h.ranged
  refine step_yields (idle := fun _ _ => h) (refused := ?refused) (reset := fun _ => ?reset)
    (accepted := fun m a b _ _ => ?accepted)
    (overread := fun _ _ _ hu => (h.fetchedFrom hu).shaped.raise _)
    (element := fun _ _ _ hb hu he => he.sizesOk (hu.busy.trans hb) (h.fetchedFrom hu))
  case refused =>
    exact ⟨h.sized.congr, hr.nlit, hr.noff, hr.ncl, hr.tablebits, hr.precodeLen, hr.codeLen, hr.matchLen⟩
  case reset => exact State.Shaped.resetObject ⟨hs.sized.congr, hs.counted.congr⟩
  case accepted =>
    have hp := hs.enter (p := .blockHeader) (by decide)
    exact State.Shaped.sizesOk_of_phase ⟨hp.sized.congr, hp.counted.congr⟩ (.inl rfl)

/-- A code-length symbol's run has 1 to 138 entries (42 R523 to R526). -/
theorem codeLenRun_length {i : Instr} {s : State} {bits r : Nat} {v : BitVec 4}
    (h : codeLenRun i s = some (bits, r, v)) : 1 ≤ r ∧ r ≤ 138 := by
  unfold codeLenRun at h
  split at h <;> cases h <;> omega

/-- Settles O53: a build gives no more entries than its table has and sorts no more symbols than its alphabet; the
counts are set by the three fields of a dynamic header and by a fixed block only. -/
theorem sizesAndRangesKept : Obligations.SizesAndRangesKept := by
  refine ⟨fun s t hs hr ht => ?_, fun i s bits r v hr hi hrun => ?_⟩
  · obtain ⟨hs', hr'⟩ := step_sizesOk ⟨hs, hr⟩ t ht
    exact ⟨hs', hr'⟩
  · obtain ⟨hmin, hmax⟩ := codeLenRun_length hrun
    have hnlit := hr.nlit
    have hnoff := hr.noff
    rw [State.total] at hi
    exact ⟨hmin, hmax, by omega⟩

/-! ### Power-on -/

theorem State.reset_ranged : State.reset.Ranged where
  nlit := Nat.zero_le _
  noff := Nat.zero_le _
  ncl := Nat.zero_le _
  tablebits := Nat.zero_le _
  precodeLen hb := by cases hb
  codeLen hb := by cases hb
  matchLen hp := by cases hp

theorem State.reset_outOk : State.reset.OutOk where
  bound := Nat.zero_le _
  wf := State.reset_out_wf
  written a := by simp [State.reset, Memory.read]
  defined := Nat.zero_le _

/-- No command runs, so no table is in use. -/
theorem State.reset_tablesBuilt : State.reset.TablesBuilt where
  precode hb := by cases hb
  body hb := by cases hb

theorem State.reset_inputOk : State.reset.InputOk :=
  ⟨Nat.two_pow_pos 64, fun m hm => by cases hm⟩

/-- Settles O57: at power-on every array is full of zeros, OUT is empty, and no command runs. -/
theorem resetKeepsEveryInvariant : Obligations.ResetKeepsEveryInvariant :=
  ⟨{ sized := State.reset_sized
     ranged := State.reset_ranged
     cursor := Nat.zero_le _
     out := State.reset_outOk
     input := State.reset_inputOk
     flag := State.flagOk_of_notLoaded rfl
     tables := State.reset_tablesBuilt }, fun hb => by cases hb⟩

end Sys2Proof.Machine

/-! PROOFS. What the host reads of OUT (20 R207, 70 R904). -/

namespace Sys2Proof.Machine
open Sys2Proof

theorem State.hostOut_of_ge {s : State} {a : Nat} (h : s.outN.toNat ≤ a) : s.hostOut a = none :=
  if_neg (Nat.not_lt.mpr h)

/-- A byte that the last response defines. -/
theorem State.hostOut_of_defined {s : State} {a : Nat} (hn : a < s.outN.toNat) (hb : s.busy = false)
    (hd : a < s.outDefined.toNat) : s.hostOut a = Memory.read s.out a := by
  rw [State.hostOut, if_pos hn, if_pos ⟨hb, hd⟩]

/-- A byte that no response defines: a command runs, or it lies past what the last one defined. -/
theorem State.hostOut_of_undefined {s : State} {a : Nat} (hn : a < s.outN.toNat)
    (h : s.busy = true ∨ s.outDefined.toNat ≤ a) : s.hostOut a = some (Config.freeByte s.freeCtr a) := by
  rw [State.hostOut, if_pos hn, if_neg]
  rintro ⟨hb, hd⟩
  obtain h | h := h
  · rw [hb] at h; cases h
  · exact Nat.not_lt.mpr h hd

/-- Settles O47: `finish` defines the bytes below `out_next`, a raise defines none, and a running command has defined
none yet. -/
theorem hostReadsTheOutput : Obligations.HostReadsTheOutput := by
  intro s a h
  refine ⟨fun ha => ?_, fun ha hn => ?_, State.hostOut_of_ge, fun e hn => ?_, fun hb hn => ?_⟩
  · obtain ⟨v, hv⟩ := Option.isSome_iff_exists.mp ((h.written a).mpr ha)
    exact ⟨v, hv, (State.hostOut_of_defined (s := s.finish) (Nat.lt_of_lt_of_le ha h.bound) rfl ha).trans hv⟩
  · exact State.hostOut_of_undefined hn (.inr ha)
  · exact State.hostOut_of_undefined hn (.inr (Nat.zero_le a))
  · exact State.hostOut_of_undefined hn (.inl hb)

end Sys2Proof.Machine

/-! PROOFS. A running command keeps its operands, and moves its cursor and its output forward only (20 R200, R202, R203,
R213). -/

namespace Sys2Proof.Machine
open Sys2Proof

/-! ### What goes forward -/

/-- `t` comes after `s` in the run of one command: the same operands, no bit unread, and no byte of OUT unwritten or
written anew. -/
structure State.Onward (s t : State) : Prop where
  operands : s.SameOperands t
  cursor   : s.c ≤ t.c
  output   : s.OutOk → t.OutOk ∧ s.outNext.toNat ≤ t.outNext.toNat ∧
    ∀ a, a < s.outNext.toNat → Memory.read t.out a = Memory.read s.out a

theorem State.Onward.refl (s : State) : s.Onward s :=
  ⟨⟨rfl, rfl, rfl, rfl⟩, Nat.le_refl _, fun h => ⟨h, Nat.le_refl _, fun _ _ => rfl⟩⟩

theorem State.Onward.trans {s t u : State} (h : s.Onward t) (h' : t.Onward u) : s.Onward u := by
  obtain ⟨⟨hin, hn, hwi, hwo⟩, hc, ho⟩ := h
  obtain ⟨⟨hin', hn', hwi', hwo'⟩, hc', ho'⟩ := h'
  refine ⟨⟨hin'.trans hin, hn'.trans hn, hwi'.trans hwi, hwo'.trans hwo⟩, hc.trans hc', fun hs => ?_⟩
  obtain ⟨ht, hnext, hread⟩ := ho hs
  obtain ⟨hu, hnext', hread'⟩ := ho' ht
  exact ⟨hu, hnext.trans hnext', fun a ha => (hread' a (Nat.lt_of_lt_of_le ha hnext)).trans (hread a ha)⟩

/-- What leaves the operands and OUT, and does not take the cursor back, goes onward. -/
theorem State.onward_of_out_eq {s t : State} (cursor : s.c ≤ t.c)
    (defined : s.OutOk → t.outDefined.toNat ≤ s.outNext.toNat)
    (inBuf : t.inBuf = s.inBuf := by rfl) (outN : t.outN = s.outN := by rfl) (wantIn : t.wantIn = s.wantIn := by rfl)
    (wantOut : t.wantOut = s.wantOut := by rfl) (out : t.out = s.out := by rfl)
    (outNext : t.outNext = s.outNext := by rfl) : s.Onward t :=
  ⟨⟨inBuf, outN, wantIn, wantOut⟩, cursor, fun h =>
    ⟨h.congr out outN outNext (defined h), outNext ▸ Nat.le_refl _, fun _ _ => by rw [out]⟩⟩

/-- A state that differs only in what a running command neither reads from IN nor writes to OUT. -/
theorem State.onward_of_eq {s t : State} (c : t.c = s.c := by rfl) (defined : t.outDefined = s.outDefined := by rfl)
    (inBuf : t.inBuf = s.inBuf := by rfl) (outN : t.outN = s.outN := by rfl) (wantIn : t.wantIn = s.wantIn := by rfl)
    (wantOut : t.wantOut = s.wantOut := by rfl) (out : t.out = s.out := by rfl)
    (outNext : t.outNext = s.outNext := by rfl) : s.Onward t :=
  State.onward_of_out_eq c.ge (fun h => defined ▸ h.defined) inBuf outN wantIn wantOut out outNext

theorem State.onward_advance (s : State) (n : Nat) : s.Onward (s.advance n) :=
  State.onward_of_out_eq (Nat.le_add_right _ _) fun h => h.defined

theorem State.onward_raise (s : State) (e : Cause) : s.Onward (s.raise e) :=
  State.onward_of_out_eq (Nat.le_refl _) fun _ => Nat.zero_le _

theorem State.onward_endBlock (s : State) : s.Onward s.endBlock := by
  cases hf : s.final
  · rw [State.endBlock_of_not_final hf]
    exact State.onward_of_eq
  · rw [State.endBlock_of_final hf]
    exact State.onward_of_out_eq (Nat.le_refl _) fun _ => Nat.le_refl _

theorem State.onward_alignToByte (s : State) : s.Onward s.alignToByte :=
  State.onward_of_out_eq (by rw [alignToByte_c]; omega) fun h => h.defined

theorem State.onward_nextByte (s : State) : s.Onward s.nextByte :=
  State.onward_of_out_eq (Nat.le_add_right _ _) fun h => h.defined

theorem State.FetchedFrom.onward {s u : State} (h : s.FetchedFrom u) : s.Onward u := by
  obtain ⟨c, dp, le, -⟩ := h
  exact State.onward_of_out_eq le fun h => h.defined

/-- Writing the next byte leaves all bytes before it (20 R202). -/
theorem State.onward_emit {s : State} (v : Byte) (room : s.OutOk → s.outNext.toNat < s.outN.toNat) :
    s.Onward (s.emit v) where
  operands := ⟨rfl, rfl, rfl, rfl⟩
  cursor := Nat.le_refl _
  output h := by
    refine ⟨h.emit v (room h), ?_, fun a ha => ?_⟩
    · rw [emit_outNext_toNat v (room h)]
      exact Nat.le_succ _
    · rw [emit_read, if_neg (Nat.ne_of_lt ha)]

theorem State.onward_copyMatch {offset n : Nat} {s t : State} (room : n ≤ s.outN.toNat - s.outNext.toNat)
    (h : State.copyMatch offset n s = some t) : s.Onward t := by
  induction n generalizing s with
  | zero => cases h; exact .refl _
  | succ n ih =>
    have hlt : s.outNext.toNat < s.outN.toNat := by omega
    simp only [State.copyMatch] at h
    split at h
    · refine (State.onward_emit _ fun _ => hlt).trans (ih ?_ h)
      rw [emit_outNext_toNat _ hlt, emit_outN]
      omega
    · cases h

theorem State.onward_copyStored {n : Nat} {s : State} (room : n ≤ s.outN.toNat - s.outNext.toNat) :
    s.Onward (State.copyStored n s) := by
  induction n generalizing s with
  | zero => exact .refl s
  | succ n ih =>
    have hlt : s.outNext.toNat < s.outN.toNat := by omega
    refine ((State.onward_emit s.thisByte fun _ => hlt).trans (State.onward_nextByte _)).trans (ih ?_)
    rw [nextByte_outN, nextByte_outNext, emit_outNext_toNat _ hlt, emit_outN]
    omega

/-! ### Outcomes that go forward -/

/-- Where `u` comes after `s`, what comes after `u` comes after `s`. -/
theorem Yields.onward_trans {s u : State} {o : Out} (h : Yields u.Onward o) (hu : s.Onward u) : Yields s.Onward o :=
  fun t ht => hu.trans (h t ht)

theorem State.consume_onward {s : State} {n : Nat} {k : State → Out}
    (hk : Yields (s.advance n).Onward (k (s.advance n))) : Yields s.Onward (s.consume n k) :=
  State.consume_yields (s.onward_raise _) fun _ => hk.onward_trans (s.onward_advance n)

/-- The builds write tables only. -/
theorem State.buildPrecode_onward {s : State} {k : State → Out} (hk : ∀ u, Yields u.Onward (k u)) :
    Yields s.Onward (s.buildPrecode k) :=
  State.buildPrecode_yields (fun _ _ => (hk _).onward_trans State.onward_of_eq) fun e =>
    State.failPrecode_yields fun _ _ _ _ =>
      State.onward_of_out_eq (Nat.le_refl _) fun _ => Nat.zero_le _

theorem State.buildCodes_onward {s : State} {k : State → Out} (hk : ∀ u, Yields u.Onward (k u)) :
    Yields s.Onward (s.buildCodes k) :=
  State.buildOffset_yields
    (fun _ _ => State.buildLitlen_yields (fun _ _ => (hk _).onward_trans State.onward_of_eq) fun _ =>
      State.failLitlen_yields fun _ _ _ _ _ _ => State.onward_of_out_eq (Nat.le_refl _) fun _ => Nat.zero_le _)
    fun _ => State.failOffset_yields fun _ _ _ _ =>
      State.onward_of_out_eq (Nat.le_refl _) fun _ => Nat.zero_le _

theorem State.blockHeader_onward {s : State} {final : Bool} {k : State → Out} (hk : ∀ u, Yields u.Onward (k u)) :
    Yields s.Onward (s.blockHeader final k) :=
  State.consume_onward ((State.consume_onward (hk _)).onward_trans State.onward_of_eq)

theorem State.storedData_onward (s : State) (len nlen : BitVec 16) : Yields s.Onward (s.storedData len nlen) := by
  obtain ⟨-, he⟩ | ⟨-, -, he⟩ | ⟨-, -, -, he⟩ | ⟨-, -, room, he⟩ := s.storedData_cases len nlen <;> rw [he, yields_next]
  · exact s.onward_raise _
  · exact s.onward_raise _
  · exact s.onward_raise _
  · exact (State.onward_copyStored room).trans (State.onward_endBlock _)

theorem State.readHalf_onward {s : State} {k : BitVec 16 → State → Out} (hk : ∀ v u, Yields u.Onward (k v u)) :
    Yields s.Onward (s.readHalf k) :=
  (hk _ _).onward_trans (s.onward_nextByte.trans (State.onward_nextByte _))

theorem State.storedBlock_onward (s : State) : Yields s.Onward s.storedBlock := by
  refine Yields.onward_trans ?_ s.onward_alignToByte
  unfold State.storedBlock
  dsimp only
  split
  · exact yields_next.mpr (State.onward_raise _ _)
  · exact State.readHalf_onward fun len _ => State.readHalf_onward fun nlen u => u.storedData_onward len nlen

theorem State.fixedBlock_onward (s : State) : Yields s.Onward s.fixedBlock := by
  unfold State.fixedBlock
  split
  · exact yields_next.mpr State.onward_of_eq
  · exact (State.buildCodes_onward fun _ => yields_next.mpr State.onward_of_eq).onward_trans
      (State.onward_of_eq (s := s) (t := s.fixedLengths))

theorem State.dynamicBlock_onward (s : State) (hlit hdist : BitVec 5) (hclen : BitVec 4) :
    Yields s.Onward (s.dynamicBlock hlit hdist hclen) := by
  refine Yields.onward_trans ?_ s.refill_fetchedFrom.onward
  refine State.consume_onward (Yields.onward_trans (State.consume_onward ?_) State.onward_of_eq)
  refine Yields.onward_trans (State.consume_onward ?_) State.onward_of_eq
  exact yields_next.mpr State.onward_of_eq

theorem State.afterPrecodeLen_onward (s : State) : Yields s.Onward s.afterPrecodeLen := by
  obtain ⟨-, he⟩ | ⟨-, he⟩ := s.afterPrecodeLen_cases <;> rw [he]
  · exact yields_next.mpr (.refl s)
  · rw [State.clearPrecodeLens_frame]
    exact (State.buildPrecode_onward fun _ => yields_next.mpr State.onward_of_eq).onward_trans State.onward_of_eq

theorem State.writeRun_onward (s : State) (r : Nat) (v : BitVec 4) : Yields s.Onward (s.writeRun r v) := by
  unfold State.writeRun
  refine Yields.onward_trans (u := { s with lens := setRun v r s.index s.lens, index := s.index + r }) ?_
    State.onward_of_eq
  obtain ⟨-, he⟩ | ⟨-, he⟩ | ⟨-, he⟩ := State.afterLens_cases _ <;> rw [he]
  · exact yields_next.mpr (.refl _)
  · exact yields_next.mpr (State.onward_raise _ _)
  · exact State.buildCodes_onward fun _ => yields_next.mpr State.onward_of_eq

theorem State.doMatch_onward (s : State) (offset : Nat) : Yields s.Onward (s.doMatch offset) := by
  obtain ⟨-, he⟩ | ⟨-, -, he⟩ | ⟨-, room, ⟨-, he⟩ | ⟨t, ht, he⟩⟩ := s.doMatch_cases offset <;> rw [he]
  · exact yields_next.mpr (s.onward_raise _)
  · exact yields_next.mpr (s.onward_raise _)
  · exact yields_fault
  · exact yields_next.mpr ((State.onward_copyMatch room ht).trans State.onward_of_eq)

/-- Every element goes onward. -/
theorem Element.onward {s : State} {o : Out} (he : Element s o) : Yields s.Onward o := by
  cases he with
  | blockStored _ final => exact State.blockHeader_onward State.storedBlock_onward
  | blockFixed _ final => exact State.blockHeader_onward State.fixedBlock_onward
  | blockDynamic _ final hlit hdist hclen =>
    exact State.blockHeader_onward fun u => u.dynamicBlock_onward hlit hdist hclen
  | blockReserved _ final => exact State.blockHeader_onward fun u => yields_next.mpr (u.onward_raise _)
  | pcl _ l =>
    exact State.consume_onward ((State.afterPrecodeLen_onward _).onward_trans State.onward_of_eq)
  | cl _ cw n => exact State.consume_onward (State.writeRun_onward _ _ _)
  | clRepPrev _ cw x =>
    refine State.consume_onward ?_
    split
    · exact yields_next.mpr (State.onward_raise _ _)
    · exact State.consume_onward (State.writeRun_onward _ _ _)
  | clZero _ cw x => exact State.consume_onward (State.consume_onward (State.writeRun_onward _ _ _))
  | clZeroLong _ cw x => exact State.consume_onward (State.consume_onward (State.writeRun_onward _ _ _))
  | lit _ cw b =>
    refine State.consume_onward ?_
    split
    · exact yields_next.mpr (State.onward_raise _ _)
    · next hne =>
      refine yields_next.mpr (State.onward_emit b fun h => ?_)
      exact Nat.lt_of_le_of_ne h.bound fun heq => hne (BitVec.eq_of_toNat_eq heq)
  | eob _ cw => exact State.consume_onward (yields_next.mpr (State.onward_endBlock _))
  | length _ bits length => exact State.consume_onward (yields_next.mpr State.onward_of_eq)
  | reservedLength _ => exact yields_next.mpr (s.onward_raise _)
  | offset _ bits offset => exact State.consume_onward (State.doMatch_onward _ _)
  | reservedOffset _ => exact yields_next.mpr (s.onward_raise _)

/-- With no command at the port a step goes onward: only an accepted DECOMPRESS begins anew. -/
theorem step_onward {s : State} (hp : s.port = none) : Yields s.Onward (step s) :=
  step_yields (idle := fun _ _ => .refl s)
    (refused := State.onward_of_eq)
    (reset := fun _ => State.onward_of_eq)
    (accepted := fun m _ _ hm _ => absurd (hp.symm.trans hm) (by simp))
    (overread := fun u _ _ hu => hu.onward.trans (u.onward_raise _))
    (element := fun _ _ _ _ hu he => he.onward.onward_trans hu.onward)

/-- Settles O50: no element writes an operand, and every one takes its bits forward. -/
theorem runningCommandKeepsItsInput : Obligations.RunningCommandKeepsItsInput := fun _ t hp ht =>
  have h := step_onward hp t ht
  ⟨h.operands, h.cursor⟩

/-! ### Which steps stop (20 R203, 41 R465) -/

/-- The outcome is a next state, or the stop at a build past its table's size. -/
def OnlyBuildStops (o : Out) : Prop := (∃ t, o = .next t) ∨ o = .fault .tableOverflow

theorem onlyBuildStops_next (t : State) : OnlyBuildStops (.next t) := .inl ⟨t, rfl⟩

theorem State.consume_onlyBuildStops {s : State} {n : Nat} {k : State → Out}
    (hk : OnlyBuildStops (k (s.advance n))) : OnlyBuildStops (s.consume n k) := by
  obtain ⟨-, h⟩ | ⟨-, h⟩ := s.consume_cases n k <;> rw [h]
  · exact onlyBuildStops_next _
  · exact hk

theorem State.buildPrecode_onlyBuildStops {s : State} {k : State → Out} (hk : ∀ u, OnlyBuildStops (k u)) :
    OnlyBuildStops (s.buildPrecode k) := by
  obtain ⟨t, -, h⟩ | ⟨-, h⟩ | ⟨-, h⟩ | ⟨-, h⟩ := s.buildPrecode_cases k <;> rw [h]
  · exact hk _
  · exact onlyBuildStops_next _
  · exact onlyBuildStops_next _
  · exact .inr rfl

theorem State.buildOffset_onlyBuildStops {s : State} {k : State → Out} (hk : ∀ u, OnlyBuildStops (k u)) :
    OnlyBuildStops (s.buildOffset k) := by
  obtain ⟨t, -, h⟩ | ⟨-, h⟩ | ⟨-, h⟩ | ⟨-, h⟩ := s.buildOffset_cases k <;> rw [h]
  · exact hk _
  · exact onlyBuildStops_next _
  · exact onlyBuildStops_next _
  · exact .inr rfl

theorem State.buildLitlen_onlyBuildStops {s : State} {k : State → Out} (hk : ∀ u, OnlyBuildStops (k u)) :
    OnlyBuildStops (s.buildLitlen k) := by
  obtain ⟨t, -, h⟩ | ⟨-, h⟩ | ⟨-, h⟩ | ⟨-, h⟩ := s.buildLitlen_cases k <;> rw [h]
  · exact hk _
  · exact onlyBuildStops_next _
  · exact onlyBuildStops_next _
  · exact .inr rfl

theorem State.buildCodes_onlyBuildStops {s : State} {k : State → Out} (hk : ∀ u, OnlyBuildStops (k u)) :
    OnlyBuildStops (s.buildCodes k) :=
  State.buildOffset_onlyBuildStops fun _ => State.buildLitlen_onlyBuildStops hk

theorem State.blockHeader_onlyBuildStops {s : State} {final : Bool} {k : State → Out}
    (hk : ∀ u, OnlyBuildStops (k u)) : OnlyBuildStops (s.blockHeader final k) :=
  State.consume_onlyBuildStops (State.consume_onlyBuildStops (hk _))

theorem State.storedBlock_onlyBuildStops (s : State) : OnlyBuildStops s.storedBlock := by
  unfold State.storedBlock
  dsimp only
  split
  · exact onlyBuildStops_next _
  · obtain ⟨-, he⟩ | ⟨-, -, he⟩ | ⟨-, -, -, he⟩ | ⟨-, -, -, he⟩ := State.storedData_cases _ _ _ <;>
      exact .inl ⟨_, he⟩

theorem State.fixedBlock_onlyBuildStops (s : State) : OnlyBuildStops s.fixedBlock := by
  unfold State.fixedBlock
  split
  · exact onlyBuildStops_next _
  · exact State.buildCodes_onlyBuildStops fun _ => onlyBuildStops_next _

theorem State.dynamicBlock_onlyBuildStops (s : State) (hlit hdist : BitVec 5) (hclen : BitVec 4) :
    OnlyBuildStops (s.dynamicBlock hlit hdist hclen) :=
  State.consume_onlyBuildStops (State.consume_onlyBuildStops (State.consume_onlyBuildStops (onlyBuildStops_next _)))

theorem State.afterPrecodeLen_onlyBuildStops (s : State) : OnlyBuildStops s.afterPrecodeLen := by
  obtain ⟨-, he⟩ | ⟨-, he⟩ := s.afterPrecodeLen_cases <;> rw [he]
  · exact onlyBuildStops_next _
  · exact State.buildPrecode_onlyBuildStops fun _ => onlyBuildStops_next _

theorem State.writeRun_onlyBuildStops (s : State) (r : Nat) (v : BitVec 4) : OnlyBuildStops (s.writeRun r v) := by
  unfold State.writeRun
  obtain ⟨-, he⟩ | ⟨-, he⟩ | ⟨-, he⟩ := State.afterLens_cases _ <;> rw [he]
  · exact onlyBuildStops_next _
  · exact onlyBuildStops_next _
  · exact State.buildCodes_onlyBuildStops fun _ => onlyBuildStops_next _

/-- 43 R609: a copy whose offset is at least 1 and at most `out_next` reads bytes that were written, the first ones
before it or by the copy itself. -/
theorem State.OutOk.copyMatch_isSome {offset n : Nat} {s : State} (h : s.OutOk) (hmin : 1 ≤ offset)
    (hmax : offset ≤ s.outNext.toNat) (room : n ≤ s.outN.toNat - s.outNext.toNat) :
    ∃ t, State.copyMatch offset n s = some t := by
  induction n generalizing s with
  | zero => exact ⟨s, rfl⟩
  | succ n ih =>
    have hlt : s.outNext.toNat < s.outN.toNat := by omega
    obtain ⟨v, hv⟩ := Option.isSome_iff_exists.mp ((h.written (s.outNext.toNat - offset)).mpr (by omega))
    rw [State.copyMatch_succ hv]
    refine ih (h.emit v hlt) ?_ ?_
    · rw [emit_outNext_toNat v hlt]; omega
    · rw [emit_outNext_toNat v hlt, emit_outN]; omega

theorem State.OutOk.doMatch_onlyBuildStops {s : State} (h : s.OutOk) {offset : Nat} (hmin : 1 ≤ offset) :
    OnlyBuildStops (s.doMatch offset) := by
  obtain ⟨-, he⟩ | ⟨-, -, he⟩ | ⟨hmax, room, ⟨hnone, -⟩ | ⟨t, -, he⟩⟩ := s.doMatch_cases offset
  · exact .inl ⟨_, he⟩
  · exact .inl ⟨_, he⟩
  · obtain ⟨t, ht⟩ := h.copyMatch_isSome hmin hmax room
    rw [ht] at hnone
    cases hnone
  · exact .inl ⟨_, he⟩

/-- Where OUT is in order, an element stops at a build past its table's size only. -/
theorem Element.onlyBuildStops {s : State} {o : Out} (he : Element s o) (h : s.OutOk) : OnlyBuildStops o := by
  cases he with
  | blockStored _ final => exact State.blockHeader_onlyBuildStops State.storedBlock_onlyBuildStops
  | blockFixed _ final => exact State.blockHeader_onlyBuildStops State.fixedBlock_onlyBuildStops
  | blockDynamic _ final hlit hdist hclen =>
    exact State.blockHeader_onlyBuildStops fun u => u.dynamicBlock_onlyBuildStops hlit hdist hclen
  | blockReserved _ final => exact State.blockHeader_onlyBuildStops fun _ => onlyBuildStops_next _
  | pcl _ l => exact State.consume_onlyBuildStops (State.afterPrecodeLen_onlyBuildStops _)
  | cl _ cw n => exact State.consume_onlyBuildStops (State.writeRun_onlyBuildStops _ _ _)
  | clRepPrev _ cw x =>
    refine State.consume_onlyBuildStops ?_
    split
    · exact onlyBuildStops_next _
    · exact State.consume_onlyBuildStops (State.writeRun_onlyBuildStops _ _ _)
  | clZero _ cw x =>
    exact State.consume_onlyBuildStops (State.consume_onlyBuildStops (State.writeRun_onlyBuildStops _ _ _))
  | clZeroLong _ cw x =>
    exact State.consume_onlyBuildStops (State.consume_onlyBuildStops (State.writeRun_onlyBuildStops _ _ _))
  | lit _ cw b =>
    refine State.consume_onlyBuildStops ?_
    split
    · exact onlyBuildStops_next _
    · exact onlyBuildStops_next _
  | eob _ cw => exact State.consume_onlyBuildStops (onlyBuildStops_next _)
  | length _ bits length => exact State.consume_onlyBuildStops (onlyBuildStops_next _)
  | reservedLength _ => exact onlyBuildStops_next _
  | offset _ bits offset hmin =>
    have ha : (s.advance bits).OutOk := h.congr rfl rfl rfl h.defined
    exact State.consume_onlyBuildStops (ha.doMatch_onlyBuildStops hmin)
  | reservedOffset _ => exact onlyBuildStops_next _

/-- A command never stops (44 R701 to R703). -/
theorem command_next {s : State} {m : HostCmd} {i : Instr} (h : decodeCommand m = .ok i) : ∃ t, exec i s = .next t := by
  unfold decodeCommand at h
  split at h
  · split at h <;> cases h
    simp only [exec, execCmdReset]
    cases s.busy
    · exact ⟨_, rfl⟩
    · exact ⟨_, rfl⟩
  · split at h <;> cases h
    simp only [exec, execCmdDecompress]
    cases s.busy
    · exact ⟨_, rfl⟩
    · exact ⟨_, rfl⟩
  · cases h; exact ⟨_, rfl⟩
  · cases h; exact ⟨_, rfl⟩

/-- Where OUT is in order, a step stops at a build, or because its fetch does. -/
theorem step_onlyBuildStops {s : State} (h : s.OutOk) :
    OnlyBuildStops (step s) ∨ (s.busy = true ∧ ∃ f, fetch s = .stuck f ∧ step s = .fault f) := by
  obtain ⟨m, i, -, hd, he⟩ | ⟨m, e, -, -, he⟩ | ⟨-, -, i, u, hf, he⟩ | ⟨-, -, u, -, he⟩ | ⟨-, hb, f, hf, he⟩ |
    ⟨-, -, he⟩ := step_cases s
  · exact .inl (.inl (he ▸ command_next hd))
  · exact .inl (.inl ⟨_, he⟩)
  · cases hf ▸ fetch_form s with
    | instr _ _ hu hel =>
      obtain ⟨hout, -⟩ := hu.onward.output h
      exact .inl (he ▸ hel.onlyBuildStops hout)
  · exact .inl (.inl ⟨_, he⟩)
  · exact .inr ⟨hb, f, hf, he⟩
  · exact .inl (.inl ⟨_, he⟩)

theorem Fetched.ofDecoded_stuck {d : Except DecodeError Instr} {s : State} {f : Fault}
    (h : Fetched.ofDecoded d s = .stuck f) : f = .malformedEntry := by
  cases d with
  | ok i => cases h
  | error e => cases h; rfl

theorem State.lookup_stuck {s : State} {table : List Entry} {T : Nat} {k : Entry → State → Fetched} {f : Fault}
    (h : s.lookup table T k = .stuck f) : ∃ e u, k e u = .stuck f := by
  obtain ⟨-, he⟩ | ⟨-, -, he⟩ | ⟨-, -, he⟩ := s.lookup_cases table T k <;> rw [he] at h
  · exact ⟨_, _, h⟩
  · cases h
  · exact ⟨_, _, h⟩

/-- A fetch stops at an entry that names no symbol only. -/
theorem fetch_stuck {s : State} {f : Fault} (h : fetch s = .stuck f) : f = .malformedEntry := by
  unfold fetch at h
  split at h
  · cases h
  · cases h
  · exact Fetched.ofDecoded_stuck h
  · obtain ⟨e, u, hk⟩ := State.lookup_stuck h
    exact Fetched.ofDecoded_stuck hk
  · obtain ⟨e, u, hk⟩ := State.lookup_stuck h
    exact Fetched.ofDecoded_stuck hk

/-- Where OUT is in order, no step reads a byte of it that was not written (20 R203). -/
theorem step_ne_outReadUnwritten {s : State} (h : s.OutOk) : step s ≠ .fault .outReadUnwritten := by
  intro hstep
  obtain (⟨t, ht⟩ | ht) | ⟨-, f, hf, he⟩ := step_onlyBuildStops h
  · rw [ht] at hstep; cases hstep
  · rw [ht] at hstep; cases hstep
  · rw [he, fetch_stuck hf] at hstep; cases hstep

/-- Settles O52: an offset over `out_next` raises before the copy, and each write is of the next byte, with room checked
before it. -/
theorem outputIsWrittenForward : Obligations.OutputIsWrittenForward := by
  refine fun s h => ⟨step_ne_outReadUnwritten h, fun t hp ht => ?_⟩
  have hon := step_onward hp t ht
  obtain ⟨hout, hnext, hread⟩ := hon.output h
  obtain ⟨-, hn, -⟩ := hon.operands
  refine ⟨hnext, hread, fun a ha => Option.not_isSome_iff_eq_none.mp fun hsome => ?_⟩
  have hlt := (hout.written a).mp hsome
  have hbound := hout.bound
  rw [hn] at hbound
  omega

end Sys2Proof.Machine

/-! PROOFS. Codewords as the builder counts them: read in reverse, one after another (41 R458, R459). -/

namespace Sys2Proof.Machine
open Sys2Proof

/-! ### Codewords read in reverse (41 R458) -/

/-- The low `n` bits of `x` read as a codeword, bit 0 as its most significant bit (30 R302). -/
def revBits : Nat → Nat → Nat
  | 0,     _ => 0
  | n + 1, x => 2 * revBits n x + x / 2 ^ n % 2

theorem revBits_lt (n x : Nat) : revBits n x < 2 ^ n := by
  induction n with
  | zero => exact Nat.one_pos
  | succ n ih => rw [revBits, Nat.pow_succ]; omega

/-- A codeword is its first `m` bits, and then the others. -/
theorem revBits_add (m n x : Nat) : revBits (m + n) x = revBits m x * 2 ^ n + revBits n (x / 2 ^ m) := by
  induction n with
  | zero => rw [Nat.add_zero, Nat.pow_zero, Nat.mul_one, revBits, Nat.add_zero]
  | succ n ih =>
    rw [← Nat.add_assoc, revBits, ih, revBits, Nat.div_div_eq_div_mul, ← Nat.pow_add]
    ring

@[simp] theorem revBits_zero_right (n : Nat) : revBits n 0 = 0 := by
  induction n with
  | zero => rfl
  | succ n ih => rw [revBits, ih, Nat.zero_div]

/-- A codeword followed by zeros. -/
theorem revBits_add_of_lt {m x : Nat} (n : Nat) (h : x < 2 ^ m) : revBits (m + n) x = revBits m x * 2 ^ n := by
  rw [revBits_add, Nat.div_eq_of_lt h, revBits_zero_right, Nat.add_zero]

theorem revBits_of_le {m n x : Nat} (hmn : m ≤ n) (h : x < 2 ^ m) : revBits n x = revBits m x * 2 ^ (n - m) := by
  rw [← revBits_add_of_lt _ h, Nat.add_sub_cancel' hmn]

theorem revBits_split {m n : Nat} (hmn : m ≤ n) (x : Nat) :
    revBits n x = revBits m x * 2 ^ (n - m) + revBits (n - m) (x / 2 ^ m) := by
  rw [← revBits_add, Nat.add_sub_cancel' hmn]

/-- Only the low bits are read. -/
theorem revBits_mod_of_le {m n : Nat} (hmn : m ≤ n) (x : Nat) : revBits m (x % 2 ^ n) = revBits m x := by
  induction m with
  | zero => rfl
  | succ m ih =>
    obtain ⟨d, rfl⟩ := Nat.exists_eq_add_of_le hmn
    rw [revBits, revBits, ih (Nat.le_of_succ_le hmn), Nat.add_assoc, Nat.add_comm 1, Nat.pow_add,
      Nat.mod_mul_right_div_self, Nat.pow_succ, Nat.mod_mul_left_mod]

theorem revBits_mod (n x : Nat) : revBits n (x % 2 ^ n) = revBits n x := revBits_mod_of_le (Nat.le_refl n) x

theorem mod_eq_of_revBits_eq {n x y : Nat} (h : revBits n x = revBits n y) : x % 2 ^ n = y % 2 ^ n := by
  induction n with
  | zero => simp [Nat.mod_one]
  | succ n ih =>
    rw [revBits, revBits] at h
    rw [Nat.mod_pow_succ, Nat.mod_pow_succ, ih (by omega), show x / 2 ^ n % 2 = y / 2 ^ n % 2 by omega]

/-- Before a codeword of `n` bits that zeros follow, all that comes earlier in `n` bits comes earlier in `m`. -/
theorem revBits_lt_of_le {m n x k : Nat} (hmn : m ≤ n) (hx : x < 2 ^ m) (h : revBits n k < revBits n x) :
    revBits m k < revBits m x := by
  rw [revBits_of_le hmn hx, revBits_split hmn] at h
  exact Nat.lt_of_mul_lt_mul_right (Nat.lt_of_le_of_lt (Nat.le_add_right _ _) h)

/-- 41 R459: where the last bit of the codeword is 0, it is set. -/
theorem advanceCode_of_lt {n c : Nat} (h : c < 2 ^ n) : advanceCode c (2 ^ (n + 1)) = c + 2 ^ n := by
  have hx : (c ^^^ (2 ^ (n + 1) - 1)).testBit n = true := by
    rw [Nat.testBit_xor, Nat.testBit_lt_two_pow h, Nat.testBit_two_pow_sub_one]
    simp
  have hlog : Nat.log2 (c ^^^ (2 ^ (n + 1) - 1)) = n := by
    rw [Nat.log2_eq_iff fun h0 => by simp [h0] at hx]
    exact ⟨Nat.ge_two_pow_of_testBit hx,
      Nat.xor_lt_two_pow (h.trans (Nat.pow_lt_pow_succ Nat.one_lt_two)) (Nat.sub_one_lt (Nat.two_pow_pos _).ne')⟩
  have hor := Nat.two_pow_add_eq_or_of_lt h 1
  rw [Nat.mul_one] at hor
  rw [advanceCode, hlog, Nat.and_two_pow_sub_one_eq_mod, Nat.mod_eq_of_lt h, Nat.or_comm, ← hor, Nat.add_comm]

/-- 41 R459: where it is 1, it is cleared and the rest advances. -/
theorem advanceCode_add_pow {n c : Nat} (h : c < 2 ^ n) (hne : c ≠ 2 ^ n - 1) :
    advanceCode (c + 2 ^ n) (2 ^ (n + 1)) = advanceCode c (2 ^ n) := by
  have hx : (c + 2 ^ n) ^^^ (2 ^ (n + 1) - 1) = c ^^^ (2 ^ n - 1) := by
    refine Nat.eq_of_testBit_eq fun i => ?_
    rw [Nat.testBit_xor, Nat.testBit_xor, Nat.testBit_two_pow_sub_one, Nat.testBit_two_pow_sub_one,
      Nat.add_comm c]
    rcases Nat.lt_trichotomy i n with hi | rfl | hi
    · rw [Nat.testBit_two_pow_add_gt hi]
      simp [hi, Nat.lt_succ_of_lt hi]
    · rw [Nat.testBit_two_pow_add_eq, Nat.testBit_lt_two_pow h]
      simp
    · rw [Nat.testBit_lt_two_pow (h.trans (Nat.pow_lt_pow_right Nat.one_lt_two hi)),
        Nat.testBit_lt_two_pow (x := 2 ^ n + c) (i := i)]
      · simp [Nat.not_lt_of_gt hi, Nat.not_lt.mpr hi]
      · calc 2 ^ n + c < 2 ^ n + 2 ^ n := Nat.add_lt_add_left h _
          _ = 2 ^ (n + 1) := by rw [Nat.pow_succ]; omega
          _ ≤ 2 ^ i := Nat.pow_le_pow_right Nat.two_pos hi
  have hpos : c ^^^ (2 ^ n - 1) ≠ 0 := by rwa [Ne, Nat.xor_eq_zero_iff]
  have hlog : Nat.log2 (c ^^^ (2 ^ n - 1)) < n :=
    (Nat.log2_lt hpos).mpr (Nat.xor_lt_two_pow h (Nat.sub_one_lt (Nat.two_pow_pos _).ne'))
  rw [advanceCode, advanceCode, hx]
  generalize Nat.log2 (c ^^^ (2 ^ n - 1)) = k at hlog
  obtain ⟨d, rfl⟩ := Nat.exists_eq_add_of_lt hlog
  rw [Nat.and_two_pow_sub_one_eq_mod, Nat.and_two_pow_sub_one_eq_mod, Nat.add_assoc k, Nat.pow_add,
    Nat.add_mul_mod_self_left]

/-- 41 R459: unless the codeword is all ones, advancing gives the next codeword of its length. -/
theorem advanceCode_spec {n c : Nat} (h : c < 2 ^ n) (hne : c ≠ 2 ^ n - 1) :
    advanceCode c (2 ^ n) < 2 ^ n ∧ revBits n (advanceCode c (2 ^ n)) = revBits n c + 1 := by
  induction n generalizing c with
  | zero => omega
  | succ n ih =>
    have hpow : 2 ^ (n + 1) = 2 ^ n + 2 ^ n := by rw [Nat.pow_succ]; omega
    by_cases hc : c < 2 ^ n
    · rw [advanceCode_of_lt hc, hpow]
      refine ⟨Nat.add_lt_add_right hc _, ?_⟩
      rw [revBits, revBits, Nat.add_div_right _ (Nat.two_pow_pos n), Nat.div_eq_of_lt hc,
        ← revBits_mod n (c + 2 ^ n), Nat.add_mod_right, revBits_mod]
    · obtain ⟨d, rfl⟩ := Nat.exists_eq_add_of_le' (Nat.le_of_not_lt hc)
      have hd : d < 2 ^ n := by omega
      obtain ⟨hlt, hrev⟩ := ih hd (by omega)
      rw [advanceCode_add_pow hd (by omega)]
      refine ⟨by omega, ?_⟩
      rw [revBits, hrev, Nat.div_eq_of_lt hlt, revBits, Nat.add_div_right _ (Nat.two_pow_pos n), Nat.div_eq_of_lt hd,
        ← revBits_mod n (d + 2 ^ n), Nat.add_mod_right, revBits_mod]
      omega

end Sys2Proof.Machine

/-! PROOFS. The sorted symbols of a code, and the codespace they take (41 R454, R455, R462). -/

namespace Sys2Proof.Machine
open Sys2Proof

/-! ### The codespace that sorted symbols take (41 R454, R455, R462) -/

/-- How many of the `2 ^ m` strings of `m` bits begin with a codeword of the symbols, longer codewords left out. -/
def spaceUpTo (m : Nat) (syms : List (Nat × Nat)) : Nat :=
  (syms.map fun p => if p.2 ≤ m then 2 ^ (m - p.2) else 0).sum

@[simp] theorem spaceUpTo_nil (m : Nat) : spaceUpTo m [] = 0 := rfl

theorem spaceUpTo_cons (m : Nat) (p : Nat × Nat) (syms : List (Nat × Nat)) :
    spaceUpTo m (p :: syms) = (if p.2 ≤ m then 2 ^ (m - p.2) else 0) + spaceUpTo m syms := rfl

theorem spaceUpTo_cons_of_le {m s l : Nat} (h : l ≤ m) (syms : List (Nat × Nat)) :
    spaceUpTo m ((s, l) :: syms) = 2 ^ (m - l) + spaceUpTo m syms := by
  rw [spaceUpTo_cons, if_pos h]

/-- With one more bit each string splits in two, and codewords of that length come in (41 R454, R462). -/
theorem spaceUpTo_succ (m : Nat) (syms : List (Nat × Nat)) :
    spaceUpTo (m + 1) syms = 2 * spaceUpTo m syms + syms.countP fun p => p.2 = m + 1 := by
  induction syms with
  | nil => rfl
  | cons p syms ih =>
    rw [spaceUpTo_cons, spaceUpTo_cons, ih, List.countP_cons]
    rcases Nat.lt_trichotomy p.2 (m + 1) with h | h | h
    · have hle : p.2 ≤ m := Nat.le_of_lt_succ h
      simp only [if_pos hle, if_pos (Nat.le_succ_of_le hle), Nat.succ_sub hle, Nat.pow_succ, h.ne, decide_false,
        Bool.false_eq_true, if_false]
      omega
    · simp only [h, Nat.le_refl, if_true, Nat.sub_self, Nat.pow_zero, Nat.not_succ_le_self, if_false, decide_true]
      omega
    · simp [Nat.not_le.mpr h, Nat.not_le.mpr (Nat.lt_of_succ_lt h), h.ne']

theorem spaceUpTo_eq_zero {m : Nat} {syms : List (Nat × Nat)} (h : ∀ p ∈ syms, m < p.2) : spaceUpTo m syms = 0 := by
  refine List.sum_eq_zero fun x hx => ?_
  obtain ⟨p, hp, rfl⟩ := List.mem_map.mp hx
  exact if_neg (Nat.not_le.mpr (h p hp))

/-- Among symbols of at least `l` bits, only those of `l` bits count up to `l`. -/
theorem spaceUpTo_eq_countP {l : Nat} {syms : List (Nat × Nat)} (h : ∀ p ∈ syms, l ≤ p.2) :
    spaceUpTo l syms = syms.countP fun p => p.2 = l := by
  induction syms with
  | nil => rfl
  | cons p syms ih =>
    rw [spaceUpTo_cons, ih fun q hq => h q (List.mem_cons_of_mem _ hq), List.countP_cons, Nat.add_comm]
    by_cases hp : p.2 = l
    · simp [hp]
    · have := h p List.mem_cons_self
      simp [hp, Nat.not_le.mpr (Nat.lt_of_le_of_ne this (Ne.symm hp))]

/-- What a build still has to place at width `n`, from the sorted symbols of `lens` on: symbols below `N`, by length, all
of at least `n` and at most `L` bits, and every symbol of more than `n` bits. -/
structure Remaining (lens : List Nat) (N L n : Nat) (syms : List (Nat × Nat)) : Prop where
  sorted : syms.Pairwise fun p q => p.2 ≤ q.2
  symbol : ∀ p ∈ syms, p.1 < N
  ge     : ∀ p ∈ syms, n ≤ p.2
  le     : ∀ p ∈ syms, p.2 ≤ L
  count  : ∀ m, n < m → m ≤ L → (syms.countP fun p => p.2 = m) = countLen lens m

section
variable {lens : List Nat} {N L n s l : Nat} {syms rest : List (Nat × Nat)}

theorem Remaining.head_ge (h : Remaining lens N L n ((s, l) :: rest)) : n ≤ l := h.ge _ List.mem_cons_self

theorem Remaining.head_le (h : Remaining lens N L n ((s, l) :: rest)) : l ≤ L := h.le _ List.mem_cons_self

theorem Remaining.head_symbol (h : Remaining lens N L n ((s, l) :: rest)) : s < N := h.symbol _ List.mem_cons_self

/-- The first symbol's length is the least. -/
theorem Remaining.widen (h : Remaining lens N L n ((s, l) :: rest)) : Remaining lens N L l ((s, l) :: rest) where
  sorted := h.sorted
  symbol := h.symbol
  ge p hp := by
    obtain rfl | hp := List.mem_cons.mp hp
    · exact Nat.le_refl _
    · exact (List.pairwise_cons.mp h.sorted).1 p hp
  le := h.le
  count m hm := h.count m (Nat.lt_of_le_of_lt h.head_ge hm)

theorem Remaining.tail (h : Remaining lens N L n ((s, l) :: rest)) : Remaining lens N L l rest where
  sorted := (List.pairwise_cons.mp h.sorted).2
  symbol p hp := h.symbol p (List.mem_cons_of_mem _ hp)
  ge p hp := h.widen.ge p (List.mem_cons_of_mem _ hp)
  le p hp := h.le p (List.mem_cons_of_mem _ hp)
  count m hm hmL := by
    have hc := h.count m (Nat.lt_of_le_of_lt h.head_ge hm) hmL
    rwa [List.countP_cons_of_neg (by simpa using hm.ne)] at hc

/-- 41 R462: the loop counts the codespace of the codewords from the current one on. -/
theorem Remaining.spaceUpTo_succ (h : Remaining lens N L n syms) {m : Nat} (hn : n ≤ m) (hm : m < L) :
    spaceUpTo (m + 1) syms = 2 * spaceUpTo m syms + countLen lens (m + 1) := by
  rw [Machine.spaceUpTo_succ, h.count (m + 1) (Nat.lt_succ_of_le hn) hm]

/-- 41 R462: the width of a subtable is the first at which the codewords that are left fill it. -/
theorem growSub_spec (h : Remaining lens N L n syms) {T : Nat} (hall : 2 ^ (L - T) ≤ spaceUpTo L syms)
    (fuel sub cs : Nat) (hcs : cs = spaceUpTo (T + sub) syms) (hn : n ≤ T + sub) (hle : T + sub ≤ L)
    (hfuel : L ≤ T + sub + fuel) :
    sub ≤ growSub lens T fuel sub cs ∧ T + growSub lens T fuel sub cs ≤ L ∧
      2 ^ growSub lens T fuel sub cs ≤ spaceUpTo (T + growSub lens T fuel sub cs) syms := by
  have hfull : T + sub = L → 2 ^ sub ≤ cs := fun heq => by
    rw [hcs, heq, show sub = L - T by omega]
    exact hall
  induction fuel generalizing sub cs with
  | zero =>
    have heq : T + sub = L := by omega
    exact ⟨Nat.le_refl _, hle, hcs ▸ hfull heq⟩
  | succ fuel ih =>
    rw [growSub]
    split
    · next hlt =>
      have hm : T + sub < L := Nat.lt_of_le_of_ne hle fun heq => Nat.not_lt.mpr (hfull heq) hlt
      have hcs' : 2 * cs + countLen lens (T + sub + 1) = spaceUpTo (T + (sub + 1)) syms := by
        rw [hcs, ← Nat.add_assoc, h.spaceUpTo_succ hn hm]
      obtain ⟨h1, h2⟩ := ih (sub + 1) _ hcs' (by omega) (by omega) (by omega) fun heq => by
        rw [hcs', heq, show sub + 1 = L - T by omega]
        exact hall
      exact ⟨Nat.le_of_succ_le h1, h2⟩
    · next hge => exact ⟨Nat.le_refl _, hle, hcs ▸ Nat.le_of_not_lt hge⟩

end

/-! ### The sorted symbols are all of the code (41 R455) -/

theorem mem_sortSyms {lens : List Nat} {L : Nat} {p : Nat × Nat} (h : p ∈ sortSyms lens L) :
    p.1 < lens.length ∧ 1 ≤ p.2 ∧ p.2 ≤ L := by
  simp only [sortSyms, List.mem_flatMap, List.mem_range, List.mem_filterMap] at h
  obtain ⟨l, hl, q, hq, hp⟩ := h
  obtain ⟨-, hlt, -⟩ := List.mem_zipIdx hq
  split at hp <;> cases hp
  exact ⟨by omega, by omega, by omega⟩

theorem sortSyms_succ (lens : List Nat) (L : Nat) :
    sortSyms lens (L + 1) =
      sortSyms lens L ++ lens.zipIdx.filterMap fun p => if p.1 = L + 1 then some (p.2, L + 1) else none := by
  simp [sortSyms, List.range_succ]

/-- The symbols of one length, each listed with it. -/
theorem mem_symbolsOfLength {lens : List Nat} {l : Nat} {p : Nat × Nat}
    (h : p ∈ lens.zipIdx.filterMap fun p => if p.1 = l then some (p.2, l) else none) : p.2 = l := by
  obtain ⟨q, -, hq⟩ := List.mem_filterMap.mp h
  split at hq <;> cases hq
  rfl

theorem sortSyms_sorted (lens : List Nat) (L : Nat) : (sortSyms lens L).Pairwise fun p q => p.2 ≤ q.2 := by
  induction L with
  | zero => exact List.Pairwise.nil
  | succ L ih =>
    rw [sortSyms_succ, List.pairwise_append]
    refine ⟨ih, List.pairwise_of_forall_mem_list fun p hp q hq => ?_, fun p hp q hq => ?_⟩
    · rw [mem_symbolsOfLength hp, mem_symbolsOfLength hq]
    · rw [mem_symbolsOfLength hq]
      exact Nat.le_succ_of_le (mem_sortSyms hp).2.2

theorem countP_sortSyms (lens : List Nat) (L m : Nat) (hm : 1 ≤ m) (hmL : m ≤ L) :
    ((sortSyms lens L).countP fun p => p.2 = m) = countLen lens m := by
  induction L with
  | zero => omega
  | succ L ih =>
    rw [sortSyms_succ, List.countP_append]
    by_cases h : m = L + 1
    · subst h
      rw [List.countP_eq_zero.mpr fun p hp => by
        simpa using (Nat.lt_succ_of_le (mem_sortSyms hp).2.2).ne,
        List.countP_eq_length.mpr fun p hp => by simpa using mem_symbolsOfLength hp, length_symbolsOfLength,
        Nat.zero_add, countLen]
    · rw [ih (by omega), List.countP_eq_zero.mpr fun p hp => by simpa [mem_symbolsOfLength hp] using Ne.symm h,
        Nat.add_zero]

/-- Before anything is placed, all sorted symbols remain. -/
theorem remaining_sortSyms {lens : List Nat} {N L n : Nat} (hN : lens.length ≤ N)
    (hn : ∀ p ∈ sortSyms lens L, n ≤ p.2) : Remaining lens N L n (sortSyms lens L) where
  sorted := sortSyms_sorted lens L
  symbol _ hp := Nat.lt_of_lt_of_le (mem_sortSyms hp).1 hN
  ge := hn
  le _ hp := (mem_sortSyms hp).2.2
  count m hm hmL := countP_sortSyms lens L m (Nat.succ_le_of_lt (Nat.lt_of_le_of_lt (Nat.zero_le n) hm)) hmL

/-- 41 R454: the codespace of the sorted symbols is the one the builder sums up. -/
theorem spaceUpTo_sortSyms {lens : List Nat} {L m : Nat} (hm : m ≤ L) :
    spaceUpTo m (sortSyms lens L) = usedSpace lens m := by
  induction m with
  | zero => exact spaceUpTo_eq_zero fun p hp => (mem_sortSyms hp).2.1
  | succ m ih =>
    rw [spaceUpTo_succ, ih (Nat.le_of_succ_le hm), countP_sortSyms lens L _ (Nat.succ_pos m) hm, usedSpace]

/-- Above `maxLen` no length is used (41 R452). -/
theorem countLen_of_maxLen_lt {lens : List Nat} {L l : Nat} (hl : maxLen lens L < l) (hlL : l ≤ L) :
    countLen lens l = 0 := by
  induction L with
  | zero => rw [maxLen] at hl; omega
  | succ L ih =>
    rw [maxLen] at hl
    split at hl
    · omega
    · next hnone =>
      by_cases heq : l = L + 1
      · rw [heq]; simp only [not_or, not_not] at hnone; exact hnone.2
      · exact ih hl (by omega)

theorem maxLen_le {lens : List Nat} {L : Nat} (h : 1 ≤ L) : maxLen lens L ≤ L := by
  induction L with
  | zero => omega
  | succ L ih =>
    rw [maxLen]
    split
    · exact Nat.le_refl _
    · exact Nat.le_succ_of_le (ih (by omega))

/-- A complete code (41 R467) leaves no codespace at any width from its longest length on. -/
theorem usedSpace_eq_pow {lens : List Nat} {L m : Nat} (hc : usedSpace lens (maxLen lens L) = 2 ^ maxLen lens L)
    (hm : maxLen lens L ≤ m) (hmL : m ≤ L) : usedSpace lens m = 2 ^ m := by
  induction m, hm using Nat.le_induction with
  | base => exact hc
  | succ m hm ih =>
    rw [usedSpace, ih (Nat.le_of_succ_le hmL), countLen_of_maxLen_lt (Nat.lt_succ_of_le hm) hmL, Nat.pow_succ]
    omega

end Sys2Proof.Machine

/-! PROOFS. The main phase of a build fills the root table (41 R458, R460). -/

namespace Sys2Proof.Machine
open Sys2Proof

/-! ### Slots that a build has filled -/

/-- Slot `j` of the table holds a symbol's entry. -/
def HoldsSymbol (mk : Nat → Nat → Entry) (N : Nat) (t : List Entry) (j : Nat) : Prop :=
  ∃ s n, s < N ∧ n ≤ 15 ∧ t[j]? = some (mk s n)

/-- Slot `j` of the root table holds a symbol's entry, or points to a subtable full of them (41 R463, R466). -/
def Resolves (mk : Nat → Nat → Entry) (N T : Nat) (t : List Entry) (j : Nat) : Prop :=
  HoldsSymbol mk N t j ∨ ∃ start bits, t[j]? = some (pointerEntry start bits T) ∧ 2 ^ T ≤ start ∧ bits ≤ 15 ∧
    ∀ k, k < 2 ^ bits → HoldsSymbol mk N t (start + k)

section
variable {mk : Nat → Nat → Entry} {N T L : Nat} {t : List Entry}

theorem HoldsSymbol.lt {j : Nat} (h : HoldsSymbol mk N t j) : j < t.length := by
  obtain ⟨s, n, -, -, hj⟩ := h
  exact (List.getElem?_eq_some_iff.mp hj).1

theorem HoldsSymbol.congr {t' : List Entry} {j k : Nat} (h : HoldsSymbol mk N t j) (hk : t'[k]? = t[j]?) :
    HoldsSymbol mk N t' k := by
  unfold HoldsSymbol
  rw [hk]
  exact h

/-- Changes that keep symbols' entries, and every root slot but `i`, leave the other slots resolved. -/
theorem Resolves.mono {t' : List Entry} {i j : Nat} (h : Resolves mk N T t j) (hj : j < 2 ^ T) (hne : j ≠ i)
    (root : ∀ k, k < 2 ^ T → k ≠ i → t'[k]? = t[k]?)
    (symbols : ∀ k, 2 ^ T ≤ k → HoldsSymbol mk N t k → HoldsSymbol mk N t' k) : Resolves mk N T t' j := by
  obtain hs | ⟨start, bits, hp, hstart, hbits, hsub⟩ := h
  · exact .inl (hs.congr (root j hj hne))
  · exact .inr ⟨start, bits, (root j hj hne).trans hp, hstart, hbits,
      fun k hk => symbols _ (Nat.le_add_right_of_le hstart) (hsub k hk)⟩

/-! ### The main table (41 R458) -/

/-- The table has grown to `2 ^ len` entries, and every index that comes before the current codeword is filled. -/
structure Fill.Main (mk : Nat → Nat → Entry) (N len : Nat) (f : Fill) : Prop where
  size   : f.curEnd = 2 ^ len
  exact  : f.Exact
  code   : f.codeword < 2 ^ len
  filled : ∀ j, j < 2 ^ len → revBits len j < revBits len f.codeword → HoldsSymbol mk N f.table j

theorem Fill.mirror_codeword (n : Nat) (f : Fill) : (f.mirror n).codeword = f.codeword := by
  induction n generalizing f with
  | zero => rfl
  | succ n ih => rw [Fill.mirror, ih]

theorem Fill.mirror_curEnd (n : Nat) (f : Fill) : (f.mirror n).curEnd = f.curEnd * 2 ^ n := by
  induction n generalizing f with
  | zero => exact (Nat.mul_one _).symm
  | succ n ih => rw [Fill.mirror, ih, Nat.pow_succ]; ring

/-- 41 R460: the mirrored table repeats the old one. -/
theorem Fill.mirror_getElem? {f : Fill} (h : f.Exact) (n j : Nat) (hj : j < f.curEnd * 2 ^ n) :
    (f.mirror n).table[j]? = f.table[j % f.curEnd]? := by
  induction n generalizing f with
  | zero => rw [Nat.pow_zero, Nat.mul_one] at hj; rw [Nat.mod_eq_of_lt hj]; rfl
  | succ n ih =>
    have hlen : f.table.length = f.curEnd := h
    have hpos : 0 < f.curEnd := Nat.pos_of_ne_zero fun h0 => by simp [h0] at hj
    show (Fill.mirror n (f.mirror 1)).table[j]? = _
    rw [ih (h.mirror 1) (by rw [Nat.pow_succ'] at hj; rwa [Fill.mirror_curEnd, Nat.pow_one, Nat.mul_assoc])]
    show (f.table ++ f.table)[j % (2 * f.curEnd)]? = _
    have hmod : j % (2 * f.curEnd) % f.curEnd = j % f.curEnd := Nat.mod_mul_left_mod j 2 _
    have hlt : j % (2 * f.curEnd) < 2 * f.curEnd := Nat.mod_lt _ (by omega)
    rw [← hmod]
    generalize j % (2 * f.curEnd) = i at hlt
    rcases Nat.lt_or_ge i f.curEnd with hi | hi
    · rw [List.getElem?_append_left (by omega), Nat.mod_eq_of_lt hi]
    · rw [List.getElem?_append_right (by omega), hlen, Nat.mod_eq_sub_mod hi, Nat.mod_eq_of_lt (by omega)]

/-- 41 R460: mirroring extends every codeword of the table by each string of bits, and the current one by zeros. -/
theorem Fill.Main.mirror {len : Nat} {f : Fill} (h : f.Main mk N len) (n : Nat) : (f.mirror n).Main mk N (len + n) where
  size := by rw [Fill.mirror_curEnd, h.size, Nat.pow_add]
  exact := h.exact.mirror n
  code := by
    rw [Fill.mirror_codeword]
    exact Nat.lt_of_lt_of_le h.code (Nat.pow_le_pow_right Nat.two_pos (Nat.le_add_right _ _))
  filled j hj hrev := by
    rw [Fill.mirror_codeword] at hrev
    refine (h.filled (j % 2 ^ len) (Nat.mod_lt _ (Nat.two_pow_pos _)) ?_).congr ?_
    · rw [revBits_mod]
      exact revBits_lt_of_le (Nat.le_add_right _ _) h.code hrev
    · rw [Fill.mirror_getElem? h.exact _ _ (by rwa [h.size, ← Nat.pow_add]), h.size]

theorem Fill.Main.mirrorTo {len l : Nat} {f : Fill} (h : f.Main mk N len) (hl : len ≤ l) :
    (f.mirror (l - len)).Main mk N l := by
  have := h.mirror (l - len)
  rwa [Nat.add_sub_cancel' hl] at this

/-- Every index of the main table is filled. -/
def Fill.Full (mk : Nat → Nat → Entry) (N T : Nat) (f : Fill) : Prop := ∀ j, j < 2 ^ T → HoldsSymbol mk N f.table j

/-- Mirroring a full table gives a full one. -/
theorem Fill.Full.mirror {len : Nat} {f : Fill} (h : f.Full mk N len) (size : f.curEnd = 2 ^ len) (exact : f.Exact)
    (n : Nat) : (f.mirror n).Full mk N (len + n) := fun j hj =>
  (h (j % 2 ^ len) (Nat.mod_lt _ (Nat.two_pow_pos _))).congr (by
    rw [Fill.mirror_getElem? exact _ _ (by rwa [size, ← Nat.pow_add]), size])

/-- Writing the entry of the current codeword fills all indices up to it. -/
theorem Fill.Main.set {len s l : Nat} {f : Fill} (h : f.Main mk N len) (hs : s < N) (hl : l ≤ 15) {j : Nat}
    (hj : j < 2 ^ len) (hrev : revBits len j ≤ revBits len f.codeword) :
    HoldsSymbol mk N (f.table.set f.codeword (mk s l)) j := by
  have hlen : f.table.length = 2 ^ len := h.exact.trans h.size
  obtain hlt | heq := Nat.lt_or_eq_of_le hrev
  · refine (h.filled j hj hlt).congr (List.getElem?_set_ne fun heq => ?_)
    rw [heq] at hlt
    exact Nat.lt_irrefl _ hlt
  · have hmod := mod_eq_of_revBits_eq heq
    rw [Nat.mod_eq_of_lt hj, Nat.mod_eq_of_lt h.code] at hmod
    exact ⟨s, l, hs, hl, by rw [hmod, List.getElem?_set_self (by rw [hlen]; exact h.code)]⟩

/-- The last codeword of `n` bits is the one of all ones. -/
theorem revBits_le_ones (n x : Nat) : revBits n x ≤ revBits n (2 ^ n - 1) := by
  suffices h : revBits n (2 ^ n - 1) = 2 ^ n - 1 by
    rw [h]
    exact Nat.le_sub_one_of_lt (revBits_lt n x)
  induction n with
  | zero => rfl
  | succ n ih =>
    have hpos := Nat.two_pow_pos n
    have hpow : 2 ^ (n + 1) - 1 = (2 ^ n - 1) + 2 ^ n := by rw [Nat.pow_succ]; omega
    rw [hpow, revBits, Nat.add_div_right _ hpos, Nat.div_eq_of_lt (by omega), ← revBits_mod, Nat.add_mod_right,
      revBits_mod, ih]
    omega

/-- The code is complete from codeword `c` of `n` bits on: with what comes before it, the codewords that are left take
the whole codespace. -/
def CompleteFrom (L n c : Nat) (syms : List (Nat × Nat)) : Prop :=
  revBits n c * 2 ^ (L - n) + spaceUpTo L syms = 2 ^ L

/-- Zeros behind the codeword change nothing. -/
theorem completeFrom_iff_of_le {n l c : Nat} {syms : List (Nat × Nat)} (hc : c < 2 ^ n) (hnl : n ≤ l) (hl : l ≤ L) :
    CompleteFrom L l c syms ↔ CompleteFrom L n c syms := by
  rw [CompleteFrom, CompleteFrom, revBits_of_le hnl hc, Nat.mul_assoc, ← Nat.pow_add,
    show l - n + (L - l) = L - n by omega]

/-- What begins with the codeword is still to be taken. -/
theorem CompleteFrom.le_space {n c : Nat} {syms : List (Nat × Nat)} (h : CompleteFrom L n c syms) (hn : n ≤ L) :
    2 ^ (L - n) ≤ spaceUpTo L syms := by
  have hle := Nat.mul_le_mul_right (2 ^ (L - n)) (Nat.succ_le_of_lt (revBits_lt n c))
  rw [← Nat.pow_add, Nat.add_sub_cancel' hn, Nat.succ_mul] at hle
  rw [CompleteFrom] at h
  omega

/-- A complete code does not end before its last codeword. -/
theorem CompleteFrom.ne_nil {n c : Nat} {syms : List (Nat × Nat)} (h : CompleteFrom L n c syms) (hn : n ≤ L) :
    syms ≠ [] := by
  rintro rfl
  exact Nat.not_lt.mpr (h.le_space hn) (Nat.two_pow_pos _)

/-- After a symbol that is not the last, the code is complete from the next codeword on. -/
theorem CompleteFrom.next {l c s : Nat} {rest : List (Nat × Nat)} (h : CompleteFrom L l c ((s, l) :: rest))
    (hl : l ≤ L) {c' : Nat} (hc' : revBits l c' = revBits l c + 1) : CompleteFrom L l c' rest := by
  rw [CompleteFrom, spaceUpTo_cons_of_le hl] at h
  rw [CompleteFrom, hc', Nat.add_one_mul]
  omega

/-- 41 R458: the main phase of a complete code fills the root table, or all of it that comes before the first codeword
of more than `T` bits. -/
theorem fillMain_spec {lens : List Nat} (hT : T ≤ L) (hL : L ≤ 15) (syms : List (Nat × Nat)) {len : Nat} {f : Fill}
    (hlen : len ≤ T) (hf : f.Main mk N len) (hr : Remaining lens N L len syms)
    (hc : CompleteFrom L len f.codeword syms) :
    ((fillMain mk T syms len f).2 = [] ∧ (fillMain mk T syms len f).1.Full mk N T) ∨
    ((fillMain mk T syms len f).1.Main mk N T ∧ Remaining lens N L (T + 1) (fillMain mk T syms len f).2 ∧
      CompleteFrom L T (fillMain mk T syms len f).1.codeword (fillMain mk T syms len f).2) := by
  induction syms generalizing len f with
  | nil => exact absurd rfl (hc.ne_nil (hlen.trans hT))
  | cons p rest ih =>
    obtain ⟨s, l⟩ := p
    rw [fillMain]
    split
    · next hlt =>
      refine .inr ⟨hf.mirrorTo hlen, ⟨hr.sorted, hr.symbol, fun q hq => ?_, hr.le, fun m hm => ?_⟩, ?_⟩
      · exact Nat.lt_of_lt_of_le hlt (hr.widen.ge q hq)
      · exact hr.count m (by omega)
      · show CompleteFrom L T (f.mirror (T - len)).codeword _
        rw [Fill.mirror_codeword]
        exact (completeFrom_iff_of_le hf.code hlen hT).mpr hc
    · next hle =>
      have hlT : l ≤ T := Nat.le_of_not_lt hle
      have hl15 : l ≤ 15 := hlT.trans (hT.trans hL)
      have hg := hf.mirrorTo hr.head_ge
      have hcg := (completeFrom_iff_of_le hf.code hr.head_ge hr.head_le).mpr hc
      rw [← Fill.mirror_codeword (l - len) f] at hcg
      generalize f.mirror (l - len) = g at hg hcg
      dsimp only
      split
      · next hlast =>
        have hfull : Fill.Full mk N l { g with table := g.table.set g.codeword (mk s l) } := fun j hj =>
          hg.set hr.head_symbol hl15 hj (by rw [hlast, hg.size]; exact revBits_le_ones l j)
        have := hfull.mirror hg.size (hg.exact.set _ _) (T - l)
        rw [Nat.add_sub_cancel' hlT] at this
        exact .inl ⟨rfl, this⟩
      · next hnot =>
        obtain ⟨hlt, hrev⟩ : advanceCode g.codeword g.curEnd < 2 ^ l ∧
            revBits l (advanceCode g.codeword g.curEnd) = revBits l g.codeword + 1 := by
          rw [hg.size] at hnot ⊢
          exact advanceCode_spec hg.code hnot
        refine ih hlT ⟨hg.size, hg.exact.set _ _, hlt, fun j hj hj' => ?_⟩ hr.tail (hcg.next hr.head_le hrev)
        exact hg.set hr.head_symbol hl15 hj (Nat.le_of_lt_succ (hj'.trans_eq hrev))

end

end Sys2Proof.Machine

/-! PROOFS. The subtable phase resolves what the main phase leaves, so that no index of a built table is empty (41 R461
to R466). -/

namespace Sys2Proof.Machine
open Sys2Proof

/-! ### Subtables (41 R461 to R464) -/

section
variable {mk : Nat → Nat → Entry} {N T L : Nat}

/-- What follows the first `T` bits of a codeword of `n` bits. -/
theorem suffix_lt {n c : Nat} (hT : T ≤ n) (h : c < 2 ^ n) : c / 2 ^ T < 2 ^ (n - T) :=
  Nat.div_lt_of_lt_mul (by rwa [← Nat.pow_add, Nat.add_sub_cancel' hT])

/-- A slot keeps its entry or takes the new one. -/
theorem fillStride_getElem?_cases (e : Entry) (step n j k : Nat) (t : List Entry) :
    (fillStride e step n j t)[k]? = t[k]? ∨ (fillStride e step n j t)[k]? = some e := by
  induction n generalizing j t with
  | zero => exact .inl rfl
  | succ n ih =>
    rw [fillStride]
    obtain h | h := ih (j + step) (t.set j e)
    · rw [h, List.getElem?_set]
      split
      · split
        · exact .inr rfl
        · next hlt => exact .inl (List.getElem?_eq_none (by omega)).symm
      · exact .inl rfl
    · exact .inr h

/-- Slots before the first one written stay. -/
theorem fillStride_getElem?_of_lt (e : Entry) (step n : Nat) {j k : Nat} (t : List Entry) (h : k < j) :
    (fillStride e step n j t)[k]? = t[k]? := by
  induction n generalizing j t with
  | zero => rfl
  | succ n ih => rw [fillStride, ih _ (Nat.lt_add_right step h), List.getElem?_set_ne (Nat.ne_of_gt h)]

/-- Every `step`-th slot takes the entry. -/
theorem fillStride_getElem?_stride (e : Entry) {step n i : Nat} (j : Nat) (t : List Entry) (hi : i < n)
    (hlt : j + i * step < t.length) : (fillStride e step n j t)[j + i * step]? = some e := by
  induction n generalizing i j t with
  | zero => omega
  | succ n ih =>
    rw [fillStride]
    cases i with
    | zero =>
      rw [Nat.zero_mul, Nat.add_zero] at hlt ⊢
      obtain h | h := fillStride_getElem?_cases e step n (j + step) j (t.set j e)
      · rw [h, List.getElem?_set_self hlt]
      · exact h
    | succ i =>
      rw [Nat.succ_mul, Nat.add_comm (i * step), ← Nat.add_assoc] at hlt ⊢
      exact ih (j + step) (t.set j e) (Nat.lt_of_succ_lt_succ hi) (by rwa [List.length_set])

theorem HoldsSymbol.fillStride {t : List Entry} {k s n : Nat} (h : HoldsSymbol mk N t k) (hs : s < N) (hn : n ≤ 15)
    (step cnt j : Nat) : HoldsSymbol mk N (fillStride (mk s n) step cnt j t) k := by
  obtain hk | hk := fillStride_getElem?_cases (mk s n) step cnt j k t
  · exact h.congr hk
  · exact ⟨s, n, hs, hn, hk⟩

/-- After the next codeword of `l` bits: either the first `T` bits are the same and the others advance, or the others
were the last and begin again behind the next `T` bits. -/
theorem revBits_succ_cases {l c c' : Nat} (hT : T ≤ l) (h : revBits l c' = revBits l c + 1) :
    (revBits T c' = revBits T c ∧ revBits (l - T) (c' / 2 ^ T) = revBits (l - T) (c / 2 ^ T) + 1) ∨
    (revBits T c' = revBits T c + 1 ∧ revBits (l - T) (c' / 2 ^ T) = 0 ∧
      revBits (l - T) (c / 2 ^ T) + 1 = 2 ^ (l - T)) := by
  rw [revBits_split hT, revBits_split hT] at h
  have hb := revBits_lt (l - T) (c / 2 ^ T)
  have hb' := revBits_lt (l - T) (c' / 2 ^ T)
  generalize revBits (l - T) (c / 2 ^ T) = b at *
  generalize revBits (l - T) (c' / 2 ^ T) = b' at *
  generalize revBits T c = a at *
  generalize revBits T c' = a' at *
  generalize 2 ^ (l - T) = B at *
  rcases Nat.lt_trichotomy a a' with hlt | rfl | hgt
  · obtain ⟨d, rfl⟩ := Nat.exists_eq_add_of_lt hlt
    rw [Nat.add_one_mul, Nat.add_mul] at h
    obtain rfl : d = 0 := Nat.eq_zero_of_not_pos fun hd => by
      have := Nat.mul_le_mul_right B hd
      omega
    exact .inr ⟨rfl, by omega, by omega⟩
  · exact .inl ⟨rfl, by omega⟩
  · have := Nat.mul_le_mul_right B (Nat.succ_le_of_lt hgt)
    rw [Nat.succ_mul] at this
    omega

/-- The subtable `b` is that of the codeword's first `T` bits: its pointer stands in the root table, it is the last of
the table, its slots before the codeword's other bits are filled, and the codewords that are left are enough to fill
it. -/
structure Sub.Open (mk : Nat → Nat → Entry) (N L T n : Nat) (syms : List (Nat × Nat)) (b : Sub) (f : Fill) : Prop where
  pre     : b.pre = f.codeword % 2 ^ T
  start   : 2 ^ T ≤ b.start
  size    : b.start + 2 ^ b.bits = f.table.length
  bits    : T + b.bits ≤ L
  width   : n ≤ T + b.bits
  pointer : f.table[b.pre]? = some (pointerEntry b.start b.bits T)
  filled  : ∀ k, k < 2 ^ b.bits → revBits (n - T) k < revBits (n - T) (f.codeword / 2 ^ T) →
    HoldsSymbol mk N f.table (b.start + k)
  room    : 2 ^ b.bits ≤ revBits (n - T) (f.codeword / 2 ^ T) * 2 ^ (T + b.bits - n) + spaceUpTo (T + b.bits) syms

/-- Between two codewords of the subtable phase: the root slots that come before the codeword's first
`T` bits are resolved. -/
structure Fill.Passed (mk : Nat → Nat → Entry) (N L T n : Nat) (syms : List (Nat × Nat)) (f : Fill) : Prop where
  exact    : f.Exact
  root     : 2 ^ T ≤ f.curEnd
  code     : f.codeword < 2 ^ n
  complete : CompleteFrom L n f.codeword syms
  passed   : ∀ j, j < 2 ^ T → revBits T j < revBits T f.codeword → Resolves mk N T f.table j

/-- The present subtable is that of the codeword's first `T` bits, or these are new and zeros follow them. -/
def SubtableAt (mk : Nat → Nat → Entry) (N L T n : Nat) (syms : List (Nat × Nat)) (cur : Option Sub) (f : Fill) : Prop :=
  (∃ b, cur = some b ∧ b.Open mk N L T n syms f) ∨
  ((∀ b, cur = some b → b.pre ≠ f.codeword % 2 ^ T) ∧ f.codeword < 2 ^ T)

section
variable {lens : List Nat} {n s l : Nat} {rest : List (Nat × Nat)} {b : Sub} {f : Fill}

theorem Fill.Passed.widen (h : f.Passed mk N L T n ((s, l) :: rest)) (hr : Remaining lens N L n ((s, l) :: rest)) :
    f.Passed mk N L T l ((s, l) :: rest) :=
  ⟨h.exact, h.root, Nat.lt_of_lt_of_le h.code (Nat.pow_le_pow_right Nat.two_pos hr.head_ge),
    (completeFrom_iff_of_le h.code hr.head_ge hr.head_le).mpr h.complete, h.passed⟩

/-- 41 R462: the subtable was made wide enough for the next codeword behind its root slot. -/
theorem Sub.Open.widen (h : b.Open mk N L T n ((s, l) :: rest) f) (hr : Remaining lens N L n ((s, l) :: rest))
    (hT : T < n) (hc : f.codeword < 2 ^ n) : b.Open mk N L T l ((s, l) :: rest) f := by
  have hsuffix := suffix_lt hT.le hc
  have hnl : n - T ≤ l - T := Nat.sub_le_sub_right hr.head_ge T
  have hwidth := h.width
  have hl : l ≤ T + b.bits := by
    refine Nat.le_of_not_lt fun hlt => ?_
    have hzero : spaceUpTo (T + b.bits) ((s, l) :: rest) = 0 :=
      spaceUpTo_eq_zero fun p hp => Nat.lt_of_lt_of_le hlt (hr.widen.ge p hp)
    have hroom := h.room
    have hlt := Nat.mul_lt_mul_of_pos_right (revBits_lt (n - T) (f.codeword / 2 ^ T)) (Nat.two_pow_pos (T + b.bits - n))
    rw [← Nat.pow_add, show n - T + (T + b.bits - n) = b.bits by omega] at hlt
    omega
  refine ⟨h.pre, h.start, h.size, h.bits, hl, h.pointer, fun k hk hrev => ?_, ?_⟩
  · exact h.filled k hk (revBits_lt_of_le hnl hsuffix hrev)
  · rw [revBits_of_le hnl hsuffix, Nat.mul_assoc, ← Nat.pow_add,
      show l - T - (n - T) + (T + b.bits - l) = T + b.bits - n by have := hr.head_ge; omega]
    exact h.room

theorem SubtableAt.widen {cur : Option Sub} (h : SubtableAt mk N L T n ((s, l) :: rest) cur f)
    (hr : Remaining lens N L n ((s, l) :: rest)) (hT : T < n) (hc : f.codeword < 2 ^ n) :
    SubtableAt mk N L T l ((s, l) :: rest) cur f := by
  obtain ⟨b, hb, ho⟩ | h := h
  · exact .inl ⟨b, hb, ho.widen hr hT hc⟩
  · exact .inr h

/-- The fill with a new subtable of `bits` bits behind the table, and its pointer at the current
root slot (41 R461). -/
def Fill.grow (T bits : Nat) (f : Fill) : Fill :=
  { f with
    table  := f.table.set (f.codeword % 2 ^ T) (pointerEntry f.curEnd bits T) ++ List.replicate (2 ^ bits) default
    curEnd := f.curEnd + 2 ^ bits }

/-- The width of a new subtable for a codeword of `l` bits that is followed by `rest` (41 R462). -/
def newSubBits (lens : List Nat) (T l : Nat) (rest : List (Nat × Nat)) : Nat :=
  growSub lens T Config.maxCodewordLen (l - T) (1 + rest.countP fun p => p.2 = l)

/-- 41 R461: the present subtable if it is that of the current root slot, else a new one. -/
theorem openSub_eq (lens : List Nat) (T l : Nat) (rest : List (Nat × Nat)) (cur : Option Sub) (f : Fill) :
    (∃ b, cur = some b ∧ b.pre = f.codeword % 2 ^ T ∧
      openSub lens T l (1 + rest.countP fun p => p.2 = l) cur f = (b, f)) ∨
    ((∀ b, cur = some b → b.pre ≠ f.codeword % 2 ^ T) ∧
      openSub lens T l (1 + rest.countP fun p => p.2 = l) cur f =
        (⟨f.codeword % 2 ^ T, f.curEnd, newSubBits lens T l rest⟩, f.grow T (newSubBits lens T l rest))) := by
  unfold openSub
  simp only [Nat.and_two_pow_sub_one_eq_mod]
  cases cur with
  | none => exact .inr ⟨by simp, rfl⟩
  | some b =>
    by_cases hb : b.pre = f.codeword % 2 ^ T
    · exact .inl ⟨b, rfl, hb, by simp [hb]⟩
    · exact .inr ⟨fun b' hb' => by cases hb'; exact hb, by simp [hb, Fill.grow, newSubBits]⟩

theorem Fill.grow_getElem?_root (hf : f.Exact) (hroot : 2 ^ T ≤ f.curEnd) (bits : Nat) :
    (f.grow T bits).table[f.codeword % 2 ^ T]? = some (pointerEntry f.curEnd bits T) := by
  have hlt : f.codeword % 2 ^ T < f.table.length :=
    Nat.lt_of_lt_of_le (Nat.mod_lt _ (Nat.two_pow_pos T)) (hroot.trans_eq hf.symm)
  show (f.table.set _ _ ++ _)[_]? = _
  rw [List.getElem?_append_left (by rwa [List.length_set]), List.getElem?_set_self hlt]

theorem Fill.grow_getElem?_of_ne {k : Nat} (hk : k < f.table.length) (hne : k ≠ f.codeword % 2 ^ T) (bits : Nat) :
    (f.grow T bits).table[k]? = f.table[k]? := by
  show (f.table.set _ _ ++ _)[k]? = _
  rw [List.getElem?_append_left (by rwa [List.length_set]), List.getElem?_set_ne hne.symm]

/-- A new subtable leaves the resolved slots of the root table resolved. -/
theorem Fill.Passed.grow {syms : List (Nat × Nat)} (h : f.Passed mk N L T n syms) (bits : Nat) :
    (f.grow T bits).Passed mk N L T n syms where
  exact := h.exact.grow _ _ _
  root := Nat.le_add_right_of_le h.root
  code := h.code
  complete := h.complete
  passed j hj hrev := by
    have hlen : f.table.length = f.curEnd := h.exact
    have hroot := h.root
    have hpre : f.codeword % 2 ^ T < 2 ^ T := Nat.mod_lt _ (Nat.two_pow_pos T)
    refine (h.passed j hj hrev).mono (i := f.codeword % 2 ^ T) hj (fun heq => ?_) (fun k hk hne => ?_) fun k hk hs => ?_
    · rw [heq] at hrev
      exact Nat.ne_of_lt hrev (revBits_mod T f.codeword)
    · exact Fill.grow_getElem?_of_ne (by omega) hne bits
    · exact hs.congr (Fill.grow_getElem?_of_ne hs.lt (by omega) bits)

/-- 41 R462: a new subtable is as wide as the codewords behind its root slot need, and they fill it. -/
theorem Fill.Passed.open_grow (h : f.Passed mk N L T l ((s, l) :: rest)) (hr : Remaining lens N L l ((s, l) :: rest))
    (hT : T < l) (hL : L ≤ 15) (hc : f.codeword < 2 ^ T) :
    Sub.Open mk N L T l ((s, l) :: rest) ⟨f.codeword % 2 ^ T, f.curEnd, newSubBits lens T l rest⟩
      (f.grow T (newSubBits lens T l rest)) := by
  have hl := hr.head_le
  have hcomplete := (completeFrom_iff_of_le hc hT.le hl).mp h.complete
  have hcs : 1 + (rest.countP fun p => p.2 = l) = spaceUpTo (T + (l - T)) ((s, l) :: rest) := by
    rw [Nat.add_sub_cancel' hT.le, spaceUpTo_eq_countP hr.ge, List.countP_cons_of_pos (by simp), Nat.add_comm]
  obtain ⟨hsub, hbits, hroom⟩ := growSub_spec hr (hcomplete.le_space (by omega)) Config.maxCodewordLen (l - T) _ hcs
    (by omega) (by omega) (by show L ≤ T + (l - T) + 15; omega)
  have hlen := h.exact.grow (2 ^ newSubBits lens T l rest) (f.codeword % 2 ^ T)
    (pointerEntry f.curEnd (newSubBits lens T l rest) T)
  have hsuffix : (f.grow T (newSubBits lens T l rest)).codeword / 2 ^ T = 0 := Nat.div_eq_of_lt hc
  refine ⟨rfl, h.root, hlen.symm, hbits, ?_, Fill.grow_getElem?_root h.exact h.root _, fun k _ hk => ?_, ?_⟩
  · show l ≤ T + newSubBits lens T l rest
    rw [newSubBits]
    omega
  · rw [hsuffix, revBits_zero_right] at hk
    omega
  · rw [hsuffix, revBits_zero_right, Nat.zero_mul, Nat.zero_add]
    exact hroom

/-- Opening a subtable gives one that is open at the current root slot. -/
theorem openSub_spec {cur : Option Sub} (h : f.Passed mk N L T l ((s, l) :: rest))
    (hcur : SubtableAt mk N L T l ((s, l) :: rest) cur f) (hr : Remaining lens N L l ((s, l) :: rest)) (hT : T < l)
    (hL : L ≤ 15) :
    ∃ b g, openSub lens T l (1 + rest.countP fun p => p.2 = l) cur f = (b, g) ∧
      g.Passed mk N L T l ((s, l) :: rest) ∧ b.Open mk N L T l ((s, l) :: rest) g := by
  obtain ⟨b, hb, hpre, he⟩ | ⟨hnew, he⟩ := openSub_eq lens T l rest cur f
  · obtain ⟨b', hb', ho⟩ | ⟨hne, -⟩ := hcur
    · obtain rfl : b = b' := Option.some.inj (hb.symm.trans hb')
      exact ⟨b, f, he, h, ho⟩
    · exact absurd hpre (hne b hb)
  · obtain ⟨b', hb', ho⟩ | ⟨-, hc⟩ := hcur
    · exact absurd ho.pre (hnew b' hb')
    · exact ⟨_, _, he, h.grow _, h.open_grow hr hT hL hc⟩

/-- The table once the entry of the current codeword, of `l` bits, stands in its slots of subtable `b` (41 R464). -/
def placed (mk : Nat → Nat → Entry) (T s l : Nat) (b : Sub) (g : Fill) : List Entry :=
  fillStride (mk s (l - T)) (2 ^ (l - T)) (2 ^ (b.bits - (l - T))) (b.start + g.codeword / 2 ^ T) g.table

/-- The slots of a subtable up to the current suffix are filled. -/
theorem Sub.Open.placed_holds (h : b.Open mk N L T l ((s, l) :: rest) f) (hr : Remaining lens N L l ((s, l) :: rest))
    (hT : T < l) (hL : L ≤ 15) (hc : f.codeword < 2 ^ l) {k : Nat} (hk : k < 2 ^ b.bits)
    (hrev : revBits (l - T) k ≤ revBits (l - T) (f.codeword / 2 ^ T)) :
    HoldsSymbol mk N (placed mk T s l b f) (b.start + k) := by
  have hl := hr.head_le
  have hn : l - T ≤ 15 := by omega
  obtain hlt | heq := Nat.lt_or_eq_of_le hrev
  · exact (h.filled k hk hlt).fillStride hr.head_symbol hn _ _ _
  · have hmod := mod_eq_of_revBits_eq heq
    rw [Nat.mod_eq_of_lt (suffix_lt hT.le hc)] at hmod
    have hslot : b.start + k = b.start + f.codeword / 2 ^ T + k / 2 ^ (l - T) * 2 ^ (l - T) := by
      rw [← hmod, Nat.add_assoc, Nat.mod_add_div']
    have hwidth := h.width
    have hi : k / 2 ^ (l - T) < 2 ^ (b.bits - (l - T)) := by
      rw [Nat.div_lt_iff_lt_mul (Nat.two_pow_pos _), ← Nat.pow_add, Nat.sub_add_cancel (by omega)]
      exact hk
    refine ⟨s, l - T, hr.head_symbol, hn, ?_⟩
    rw [hslot]
    refine fillStride_getElem?_stride _ _ _ hi ?_
    rw [← hslot, ← h.size]
    exact Nat.add_lt_add_left hk _

/-- An entry in a subtable leaves the root table. -/
theorem Sub.Open.placed_getElem?_root (h : b.Open mk N L T n ((s, l) :: rest) f) {k : Nat} (hk : k < 2 ^ T) :
    (placed mk T s l b f)[k]? = f.table[k]? :=
  fillStride_getElem?_of_lt _ _ _ _ (Nat.lt_of_lt_of_le hk (Nat.le_add_right_of_le h.start))

/-- An entry in a subtable leaves the resolved slots of the root table resolved. -/
theorem Sub.Open.placed_resolves (h : b.Open mk N L T l ((s, l) :: rest) f)
    (hr : Remaining lens N L l ((s, l) :: rest)) (hL : L ≤ 15) {j : Nat} (hj : j < 2 ^ T)
    (hres : Resolves mk N T f.table j) : Resolves mk N T (placed mk T s l b f) j := by
  have hl := hr.head_le
  exact hres.mono (i := 2 ^ T) hj hj.ne (fun k hk _ => h.placed_getElem?_root hk)
    fun k _ hs => hs.fillStride hr.head_symbol (by omega) _ _ _

/-- The last codeword behind a root slot completes its subtable. -/
theorem Sub.Open.placed_last (h : b.Open mk N L T l ((s, l) :: rest) f) (hf : f.Passed mk N L T l ((s, l) :: rest))
    (hr : Remaining lens N L l ((s, l) :: rest)) (hT : T < l) (hL : L ≤ 15)
    (hlast : ∀ k, revBits (l - T) k ≤ revBits (l - T) (f.codeword / 2 ^ T)) {j : Nat} (hj : j < 2 ^ T)
    (hrev : revBits T j ≤ revBits T f.codeword) : Resolves mk N T (placed mk T s l b f) j := by
  obtain hlt | heq := Nat.lt_or_eq_of_le hrev
  · exact h.placed_resolves hr hL hj (hf.passed j hj hlt)
  · have hmod := mod_eq_of_revBits_eq heq
    rw [Nat.mod_eq_of_lt hj, ← h.pre] at hmod
    have hbits := h.bits
    refine .inr ⟨b.start, b.bits, ?_, h.start, by omega, fun k hk => h.placed_holds hr hT hL hf.code hk (hlast k)⟩
    rw [h.placed_getElem?_root hj, hmod]
    exact h.pointer

/-- The first bits of the codeword of all ones are the last of all, and so are the others. -/
theorem revBits_le_ones_root (hT : T ≤ l) (j : Nat) : revBits T j ≤ revBits T (2 ^ l - 1) := by
  rw [← revBits_mod T (2 ^ l - 1), ← Nat.add_sub_cancel' hT, Nat.pow_add,
    Nat.mul_sub_mod (x := 0) (Nat.mul_pos (Nat.two_pow_pos _) (Nat.two_pow_pos _)), Nat.zero_mod]
  exact revBits_le_ones T j

theorem revBits_le_ones_suffix (hT : T ≤ l) (k : Nat) : revBits (l - T) k ≤ revBits (l - T) ((2 ^ l - 1) / 2 ^ T) := by
  have hpow : 2 ^ l = 2 ^ T * 2 ^ (l - T) := by rw [← Nat.pow_add, Nat.add_sub_cancel' hT]
  rw [hpow, Nat.mul_sub_div 0 _ _ (Nat.mul_pos (Nat.two_pow_pos _) (Nat.two_pow_pos _)), Nat.zero_div]
  exact revBits_le_ones _ k

/-- After a codeword that is not all ones, the subtable phase goes on from the next one. -/
theorem Sub.Open.next (h : b.Open mk N L T l ((s, l) :: rest) f) (hf : f.Passed mk N L T l ((s, l) :: rest))
    (hr : Remaining lens N L l ((s, l) :: rest)) (hT : T < l) (hL : L ≤ 15) (hne : f.codeword ≠ 2 ^ l - 1) :
    Fill.Passed mk N L T l rest
      { f with table := placed mk T s l b f, codeword := advanceCode f.codeword (2 ^ l) } ∧
    SubtableAt mk N L T l rest (some b)
      { f with table := placed mk T s l b f, codeword := advanceCode f.codeword (2 ^ l) } := by
  obtain ⟨hlt, hrev⟩ := advanceCode_spec hf.code hne
  have hlen : (placed mk T s l b f).length = f.table.length := fillStride_length ..
  have hcomplete := hf.complete.next hr.head_le hrev
  generalize advanceCode f.codeword (2 ^ l) = c' at hlt hrev hcomplete ⊢
  obtain ⟨hpre, hsuf⟩ | ⟨hpre, hsuf, hlast⟩ := revBits_succ_cases hT.le hrev
  · refine ⟨⟨hlen.trans hf.exact, hf.root, hlt, hcomplete, fun j hj hj' => ?_⟩, .inl ⟨b, rfl, ?_⟩⟩
    · exact h.placed_resolves hr hL hj (hf.passed j hj (hj'.trans_eq hpre))
    · have hroot : b.pre < 2 ^ T := by rw [h.pre]; exact Nat.mod_lt _ (Nat.two_pow_pos T)
      refine ⟨h.pre.trans (mod_eq_of_revBits_eq hpre.symm), h.start, h.size.trans hlen.symm, h.bits, h.width,
        (h.placed_getElem?_root hroot).trans h.pointer, fun k hk hk' => ?_, ?_⟩
      · exact h.placed_holds hr hT hL hf.code hk (Nat.le_of_lt_succ (hk'.trans_eq hsuf))
      · have hroom := h.room
        rw [spaceUpTo_cons_of_le h.width, ← Nat.add_assoc, ← Nat.add_one_mul] at hroom
        rw [hsuf]
        exact hroom
  · have hmax : ∀ k, revBits (l - T) k ≤ revBits (l - T) (f.codeword / 2 ^ T) := fun k => by
      have := revBits_lt (l - T) k
      omega
    refine ⟨⟨hlen.trans hf.exact, hf.root, hlt, hcomplete, fun j hj hj' => ?_⟩, .inr ⟨fun b' hb' heq => ?_, ?_⟩⟩
    · exact h.placed_last hf hr hT hL hmax hj (Nat.le_of_lt_succ (hj'.trans_eq hpre))
    · cases hb'
      have := congrArg (revBits T) (h.pre.symm.trans heq)
      rw [revBits_mod] at this
      have := this.trans (revBits_mod T c')
      omega
    · have hzero := mod_eq_of_revBits_eq (hsuf.trans (revBits_zero_right (l - T)).symm)
      rw [Nat.mod_eq_of_lt (suffix_lt hT.le hlt), Nat.zero_mod, Nat.div_eq_zero_iff] at hzero
      exact hzero.resolve_left (Nat.two_pow_pos T).ne'

end

/-- 41 R461 to R464: the subtable phase of a complete code resolves every slot of the root table. -/
theorem fillSub_spec {lens : List Nat} (hL : L ≤ 15) (syms : List (Nat × Nat)) {n : Nat} {cur : Option Sub} {f : Fill}
    (hT : T < n) (hn : n ≤ L) (hf : f.Passed mk N L T n syms) (hcur : SubtableAt mk N L T n syms cur f)
    (hr : Remaining lens N L n syms) {j : Nat} (hj : j < 2 ^ T) :
    Resolves mk N T (fillSub lens mk T syms cur f).table j := by
  induction syms generalizing n cur f with
  | nil => exact absurd rfl (hf.complete.ne_nil hn)
  | cons p rest ih =>
    obtain ⟨s, l⟩ := p
    have hTl : T < l := Nat.lt_of_lt_of_le hT hr.head_ge
    obtain ⟨b, g, ho, hg, hb⟩ := openSub_spec (hf.widen hr) (hcur.widen hr hT hf.code) hr.widen hTl hL
    simp only [fillSub, ho]
    split
    · next hones =>
      refine hb.placed_last hg hr.widen hTl hL (fun k => ?_) hj ?_
      · rw [hones]; exact revBits_le_ones_suffix hTl.le k
      · rw [hones]; exact revBits_le_ones_root hTl.le j
    · next hne =>
      obtain ⟨hp, hs⟩ := hb.next hg hr.widen hTl hL hne
      exact ih hTl hr.head_le hp hs hr.tail

end

/-! ### A built table resolves every index (41 R466) -/

/-- The first of the sorted symbols has the least length. -/
theorem head_length_le {syms : List (Nat × Nat)} (h : syms.Pairwise fun p q => p.2 ≤ q.2) {p : Nat × Nat}
    (hp : p ∈ syms) : (syms.head?.map Prod.snd).getD 1 ≤ p.2 := by
  cases h with
  | nil => cases hp
  | cons hle _ =>
    obtain rfl | hp := List.mem_cons.mp hp
    · exact Nat.le_refl _
    · exact hle p hp

/-- 41 R458 to R464: the table of a complete code. -/
theorem fillTable_resolves {lens : List Nat} {mk : Nat → Nat → Entry} {N T L : Nat} (hN : lens.length ≤ N)
    (hT : T ≤ L) (hL : L ≤ 15) (hc : usedSpace lens L = 2 ^ L) {j : Nat} (hj : j < 2 ^ T) :
    Resolves mk N T (fillTable lens mk T L).table j := by
  set first := min T (((sortSyms lens L).head?.map Prod.snd).getD 1)
  set start : Fill := ⟨List.replicate (2 ^ first) default, 2 ^ first, 0⟩
  have hlen : first ≤ T := Nat.min_le_left _ _
  have hmain : start.Main mk N first :=
    ⟨rfl, List.length_replicate, Nat.two_pow_pos _, fun k _ hk => by
      rw [show start.codeword = 0 from rfl, revBits_zero_right] at hk; omega⟩
  have hr : Remaining lens N L first (sortSyms lens L) := remaining_sortSyms hN fun p hp =>
    (Nat.min_le_right _ _).trans (head_length_le (sortSyms_sorted lens L) hp)
  have hcomplete : CompleteFrom L first start.codeword (sortSyms lens L) := by
    rw [CompleteFrom, spaceUpTo_sortSyms (Nat.le_refl L), hc, show start.codeword = 0 from rfl, revBits_zero_right,
      Nat.zero_mul, Nat.zero_add]
  show Resolves mk N T (fillSub lens mk T (fillMain mk T (sortSyms lens L) first start).2 none
    (fillMain mk T (sortSyms lens L) first start).1).table j
  obtain ⟨hrest, hfull⟩ | ⟨hf, hr', hc'⟩ := fillMain_spec hT hL _ hlen hmain hr hcomplete
  · rw [hrest]
    exact .inl (hfull j hj)
  · generalize (fillMain mk T (sortSyms lens L) first start).1 = f at hf hc' ⊢
    generalize (fillMain mk T (sortSyms lens L) first start).2 = rest at hr' hc' ⊢
    have hTL : T + 1 ≤ L := by
      obtain ⟨p, rest', rfl⟩ := List.exists_cons_of_ne_nil (hc'.ne_nil hT)
      exact hr'.head_ge.trans hr'.head_le
    refine fillSub_spec hL rest (Nat.lt_succ_self T) hTL ⟨hf.exact, hf.size.ge, ?_, ?_, fun k hk hrev => ?_⟩
      (.inr ⟨by simp, hf.code⟩) hr' hj
    · exact hf.code.trans (Nat.pow_lt_pow_succ Nat.one_lt_two)
    · exact (completeFrom_iff_of_le hf.code (Nat.le_succ T) hTL).mpr hc'
    · exact .inl (hf.filled k hk hrev)

/-- Every index of the root of a built table gives a symbol's entry, or points to a full subtable (41 R466): the table of
a complete code by `fillTable_resolves`, and the two incomplete codes because all entries are the same (41 R456). -/
theorem buildTable_resolves {lens : List Nat} {mk : Nat → Nat → Entry} {N T L enough : Nat} {t : List Entry}
    (h : buildTable lens mk T L enough = .ok t) (hN : lens.length ≤ N) (hpos : 0 < N) (hT : T ≤ L) (hL1 : 1 ≤ L)
    (hL : L ≤ 15) {j : Nat} (hj : j < 2 ^ T) : Resolves mk N T t j := by
  simp only [buildTable] at h
  split at h
  · cases h
  next hnot =>
  split at h
  · split at h
    · cases h
      exact .inl ⟨0, 1, hpos, by decide, List.getElem?_replicate_of_lt hj⟩
    · split at h <;> cases h
      refine .inl ⟨_, 1, ?_, by decide, List.getElem?_replicate_of_lt hj⟩
      cases hs : (sortSyms lens L).head? with
      | none => exact hpos
      | some p => exact Nat.lt_of_lt_of_le (mem_sortSyms (List.mem_of_head? hs)).1 hN
  · next hge =>
    split at h <;> cases h
    have hc := Nat.le_antisymm (Nat.le_of_not_lt hnot) (Nat.le_of_not_lt hge)
    exact fillTable_resolves hN hT hL (usedSpace_eq_pow hc (maxLen_le hL1) (Nat.le_refl L)) hj

end Sys2Proof.Machine

/-! PROOFS. What a built table holds is decoded (30 R303 to R311, 43 R604, R605). -/

namespace Sys2Proof.Machine
open Sys2Proof

/-! ### The entries a build makes, decoded (30 R303 to R311, 43 R605) -/

/-- Bit `i` of a word, from the number it is packed from. -/
theorem getLsbD_ofNat {x i : Nat} {b : Bool} (hi : i < 32) (h : x / 2 ^ i % 2 = b.toNat) :
    (BitVec.ofNat 32 x).getLsbD i = b := by
  rw [BitVec.getLsbD_ofNat, decide_eq_true hi, Bool.true_and, Nat.testBit_eq_decide_div_mod_eq, h]
  cases b <;> rfl

/-- A field of a word, from the number it is packed from. -/
theorem extractLsb'_ofNat_toNat {x i n : Nat} (h : i + n ≤ 32) :
    ((BitVec.ofNat 32 x).extractLsb' i n).toNat = x / 2 ^ i % 2 ^ n := by
  rw [BitVec.extractLsb'_toNat, BitVec.toNat_ofNat, Nat.shiftRight_eq_div_pow,
    show (2 : Nat) ^ 32 = 2 ^ i * 2 ^ (32 - i) by rw [← Nat.pow_add]; congr 1; omega, Nat.mod_mul_right_div_self,
    Nat.mod_mod_of_dvd _ (Nat.pow_dvd_pow 2 (by omega))]

theorem pointerEntry_isPointer {start bits T : Nat} (hb : bits ≤ 15) (hT : T ≤ 15) :
    (pointerEntry start bits T).isPointer = true := by
  have hexc : (pointerEntry start bits T).exceptional = true :=
    getLsbD_ofNat (by decide) (show _ / 0x8000 % 2 = 1 by omega)
  have hptr : (pointerEntry start bits T).subtablePointer = true :=
    getLsbD_ofNat (by decide) (show _ / 0x4000 % 2 = 1 by omega)
  rw [Entry.isPointer, hexc, hptr, Bool.and_true]

theorem pointerEntry_subStart {start bits T : Nat} (hs : start < 2 ^ 15) (hb : bits ≤ 15) (hT : T ≤ 15) :
    (pointerEntry start bits T).subStart = start := by
  rw [Entry.subStart, pointerEntry, extractLsb'_ofNat_toNat (by decide)]
  omega

theorem pointerEntry_cwbits {start bits T : Nat} (hb : bits ≤ 15) (hT : T ≤ 15) :
    (pointerEntry start bits T).cwbits.toNat = bits := by
  rw [Entry.cwbits, pointerEntry, extractLsb'_ofNat_toNat (by decide)]
  omega

/-- A precode entry holds its symbol (30 R306). -/
theorem precodeEntry_presym {s n : Nat} (hs : s < 19) (hn : n ≤ 15) : (makeEntry tmplPrecode s n).presym = s := by
  rw [Entry.presym, makeEntry, extractLsb'_ofNat_toNat (by decide), tmplPrecode]
  have hfield : ∀ m, m < 0x1000 → (s * 2 ^ 16 + m) / 2 ^ 16 % 2 ^ 5 = s := fun m hm => by omega
  rw [Nat.add_assoc]
  exact hfield _ (by omega)

/-- Every precode symbol is decoded (42 R523 to R526). -/
theorem decodePresym_precodeEntry {s n : Nat} (hs : s < 19) (hn : n ≤ 15) (inb : List Byte) (c : Nat) :
    ∃ i, decodePresym (makeEntry tmplPrecode s n) inb c = .ok i := by
  rw [decodePresym, precodeEntry_presym hs hn]
  split
  · exact ⟨_, rfl⟩
  · obtain rfl | rfl | rfl : s = 16 ∨ s = 17 ∨ s = 18 := by omega
    all_goals exact ⟨_, rfl⟩

theorem makeEntry_sym_toNat (tmpl : Nat → Nat) {s n : Nat} (hs : s < 288) : (makeEntry tmpl s n).sym.toNat = s := by
  rw [makeEntry, BitVec.toNat_ofNat]
  omega

/-- A bit of an entry above its length fields, from its template (41 R457). -/
theorem makeEntry_getLsbD {tmpl : Nat → Nat} {s n i : Nat} {b : Bool} (hn : n ≤ 15) (hi : i < 32)
    (h : ∀ m, m < 0x1000 → (tmpl s + m) / 2 ^ i % 2 = b.toNat) : (makeEntry tmpl s n).word.getLsbD i = b :=
  getLsbD_ofNat hi (by rw [Nat.add_assoc]; exact h _ (by omega))

theorem makeEntry_literal {tmpl : Nat → Nat} {s n : Nat} {b : Bool} (hn : n ≤ 15)
    (h : ∀ m, m < 0x1000 → (tmpl s + m) / 0x80000000 % 2 = b.toNat) : (makeEntry tmpl s n).literal = b :=
  makeEntry_getLsbD hn (by decide) h

theorem makeEntry_exceptional {tmpl : Nat → Nat} {s n : Nat} {b : Bool} (hn : n ≤ 15)
    (h : ∀ m, m < 0x1000 → (tmpl s + m) / 0x8000 % 2 = b.toNat) : (makeEntry tmpl s n).exceptional = b :=
  makeEntry_getLsbD hn (by decide) h

theorem makeEntry_subtablePointer {tmpl : Nat → Nat} {s n : Nat} {b : Bool} (hn : n ≤ 15)
    (h : ∀ m, m < 0x1000 → (tmpl s + m) / 0x4000 % 2 = b.toNat) : (makeEntry tmpl s n).subtablePointer = b :=
  makeEntry_getLsbD hn (by decide) h

theorem makeEntry_endOfBlock {tmpl : Nat → Nat} {s n : Nat} {b : Bool} (hn : n ≤ 15)
    (h : ∀ m, m < 0x1000 → (tmpl s + m) / 0x2000 % 2 = b.toNat) : (makeEntry tmpl s n).endOfBlock = b :=
  makeEntry_getLsbD hn (by decide) h

/-- Where all of a list are at most `b`, so is what stands at an index, 0 past its end. -/
theorem getD_zero_le {l : List Nat} {b : Nat} (h : ∀ x ∈ l, x ≤ b) (i : Nat) : l.getD i 0 ≤ b := by
  rcases Nat.lt_or_ge i l.length with hi | hi
  · rw [List.getD_eq_getElem _ _ hi]
    exact h _ (List.getElem_mem hi)
  · rw [List.getD_eq_default _ _ hi]
    exact Nat.zero_le b

theorem lenBase_le (s : Nat) : lenBase s ≤ 258 := getD_zero_le (by decide) _

theorem lenExtra_le (s : Nat) : lenExtra s ≤ 5 := getD_zero_le (by decide) _

theorem offExtra_le (d : Nat) : offExtra d ≤ 13 := getD_zero_le (by decide) _

/-- The entry of a lit/len symbol in this hardware's tables (30 R311). -/
abbrev litlenEntry (s n : Nat) : Entry := makeEntry (tmplLitlen Config.reservedSymbolPolicy) s n

/-- The entry of an offset symbol in this hardware's tables. -/
abbrev offsetEntry (s n : Nat) : Entry := makeEntry (tmplOffset Config.reservedSymbolPolicy) s n

/-- A literal's entry (30 R304). -/
theorem litlenEntry_of_literal {s n : Nat} (hs : s < 256) (hn : n ≤ 15) :
    (litlenEntry s n).literal = true ∧ (litlenEntry s n).exceptional = false := by
  have ht : tmplLitlen Config.reservedSymbolPolicy s = 0x80000000 + s * 2 ^ 16 := if_pos hs
  exact ⟨makeEntry_literal hn (fun m hm => by rw [ht, Bool.toNat_true]; omega),
    makeEntry_exceptional hn (fun m hm => by rw [ht, Bool.toNat_false]; omega)⟩

/-- The entry of the end of a block (30 R304). -/
theorem litlenEntry_endOfBlock {n : Nat} (hn : n ≤ 15) :
    (litlenEntry 256 n).literal = false ∧ (litlenEntry 256 n).exceptional = true ∧
      (litlenEntry 256 n).endOfBlock = true ∧ (litlenEntry 256 n).subtablePointer = false := by
  have ht : tmplLitlen Config.reservedSymbolPolicy 256 = 0xA000 := rfl
  exact ⟨makeEntry_literal hn (fun m hm => by rw [ht, Bool.toNat_false]; omega),
    makeEntry_exceptional hn (fun m hm => by rw [ht, Bool.toNat_true]; omega),
    makeEntry_endOfBlock hn (fun m hm => by rw [ht, Bool.toNat_true]; omega),
    makeEntry_subtablePointer hn (fun m hm => by rw [ht, Bool.toNat_false]; omega)⟩

/-- A length's entry has none of the flags (30 R305). -/
theorem litlenEntry_of_length {s n : Nat} (hs : 257 ≤ s) (hs' : s < 286) (hn : n ≤ 15) :
    (litlenEntry s n).literal = false ∧ (litlenEntry s n).exceptional = false := by
  have ht : tmplLitlen Config.reservedSymbolPolicy s = lenBase s * 2 ^ 16 + lenExtra s := by
    show tmplLitlen .reject s = _
    rw [tmplLitlen, if_neg (by omega), if_neg (by omega), if_pos hs']
  have hbase := lenBase_le s
  have hextra := lenExtra_le s
  exact ⟨makeEntry_literal hn (fun m hm => by rw [ht, Bool.toNat_false]; omega),
    makeEntry_exceptional hn (fun m hm => by rw [ht, Bool.toNat_false]; omega)⟩

/-- A reserved lit/len symbol's entry (30 R311). -/
theorem litlenEntry_of_reserved {s n : Nat} (hs : 286 ≤ s) (hn : n ≤ 15) :
    (litlenEntry s n).literal = false ∧ (litlenEntry s n).exceptional = true ∧
      (litlenEntry s n).endOfBlock = false ∧ (litlenEntry s n).subtablePointer = false := by
  have ht : tmplLitlen Config.reservedSymbolPolicy s = 0x8000 := by
    show tmplLitlen .reject s = _
    rw [tmplLitlen, if_neg (by omega), if_neg (by omega), if_neg (by omega)]
  exact ⟨makeEntry_literal hn (fun m hm => by rw [ht, Bool.toNat_false]; omega),
    makeEntry_exceptional hn (fun m hm => by rw [ht, Bool.toNat_true]; omega),
    makeEntry_endOfBlock hn (fun m hm => by rw [ht, Bool.toNat_false]; omega),
    makeEntry_subtablePointer hn (fun m hm => by rw [ht, Bool.toNat_false]; omega)⟩

/-- The four classes of lit/len symbols. -/
theorem litlen_classes {s : Nat} (hs : s < 288) :
    s < 256 ∨ s = 256 ∨ (257 ≤ s ∧ s < 286) ∨ (286 ≤ s ∧ (s = 286 ∨ s = 287)) := by omega

theorem Entry.not_isPointer_of_not_exceptional {e : Entry} (h : e.exceptional = false) : e.isPointer = false := by
  rw [Entry.isPointer, h, Bool.false_and]

theorem Entry.not_isPointer_of_not_subtablePointer {e : Entry} (h : e.subtablePointer = false) :
    e.isPointer = false := by
  rw [Entry.isPointer, h, Bool.and_false]

theorem litlenEntry_not_isPointer {s n : Nat} (hs : s < 288) (hn : n ≤ 15) : (litlenEntry s n).isPointer = false := by
  obtain h | rfl | ⟨h, h'⟩ | ⟨h, -⟩ := litlen_classes hs
  · obtain ⟨-, hexc⟩ := litlenEntry_of_literal h hn
    exact Entry.not_isPointer_of_not_exceptional hexc
  · obtain ⟨-, -, -, hptr⟩ := litlenEntry_endOfBlock hn
    exact Entry.not_isPointer_of_not_subtablePointer hptr
  · obtain ⟨-, hexc⟩ := litlenEntry_of_length h h' hn
    exact Entry.not_isPointer_of_not_exceptional hexc
  · obtain ⟨-, -, -, hptr⟩ := litlenEntry_of_reserved h hn
    exact Entry.not_isPointer_of_not_subtablePointer hptr

/-- An ordinary offset's entry has no flag (30 R308). -/
theorem offsetEntry_of_offset {s n : Nat} (hs : s < 30) (hn : n ≤ 15) : (offsetEntry s n).exceptional = false := by
  have ht : tmplOffset Config.reservedSymbolPolicy s = offBase s * 2 ^ 16 + offExtra s := if_pos hs
  have hextra := offExtra_le s
  exact makeEntry_exceptional hn (fun m hm => by rw [ht, Bool.toNat_false]; omega)

/-- A reserved offset symbol's entry (30 R311). -/
theorem offsetEntry_of_reserved {s n : Nat} (hs : 30 ≤ s) (hn : n ≤ 15) :
    (offsetEntry s n).exceptional = true ∧ (offsetEntry s n).subtablePointer = false := by
  have ht : tmplOffset Config.reservedSymbolPolicy s = 0x8000 := by
    show tmplOffset .reject s = _
    rw [tmplOffset, if_neg (by omega)]
  exact ⟨makeEntry_exceptional hn (fun m hm => by rw [ht, Bool.toNat_true]; omega),
    makeEntry_subtablePointer hn (fun m hm => by rw [ht, Bool.toNat_false]; omega)⟩

theorem offsetEntry_not_isPointer {s n : Nat} (hn : n ≤ 15) : (offsetEntry s n).isPointer = false := by
  rcases Nat.lt_or_ge s 30 with h | h
  · exact Entry.not_isPointer_of_not_exceptional (offsetEntry_of_offset h hn)
  · obtain ⟨-, hptr⟩ := offsetEntry_of_reserved h hn
    exact Entry.not_isPointer_of_not_subtablePointer hptr

theorem lenInstr_isSome {s : Nat} (hs : 257 ≤ s) (hs' : s < 288) (cw : BitVec 4) (v : Nat) :
    ∃ i, lenInstr s cw v = some i := by
  interval_cases s <;> exact ⟨_, rfl⟩

theorem distInstr_isSome {s : Nat} (hs : s < 32) (cw : BitVec 4) (v : Nat) : ∃ i, distInstr s cw v = some i := by
  interval_cases s <;> exact ⟨_, rfl⟩

/-- Every lit/len symbol is decoded (43 R605). -/
theorem decodeLitlen_litlenEntry {s n : Nat} (hs : s < 288) (hn : n ≤ 15) (inb : List Byte) (c : Nat) :
    ∃ i, decodeLitlen (litlenEntry s n) inb c = .ok i := by
  have hsym := makeEntry_sym_toNat (tmplLitlen Config.reservedSymbolPolicy) (n := n) hs
  rw [decodeLitlen, Entry.isEob, hsym]
  obtain h | rfl | ⟨h, h'⟩ | ⟨h, h'⟩ := litlen_classes hs
  · obtain ⟨hlit, -⟩ := litlenEntry_of_literal h hn
    exact ⟨_, if_pos hlit⟩
  · obtain ⟨hlit, hexc, heob, -⟩ := litlenEntry_endOfBlock hn
    rw [hlit, hexc, heob]
    exact ⟨_, rfl⟩
  · obtain ⟨hlit, hexc⟩ := litlenEntry_of_length h h' hn
    obtain ⟨i, hi⟩ := lenInstr_isSome h hs (litlenEntry s n).cwbits (extraValue (litlenEntry s n) inb c)
    rw [hlit, hexc, hi]
    exact ⟨i, rfl⟩
  · obtain ⟨hlit, hexc, heob, -⟩ := litlenEntry_of_reserved h hn
    rw [hlit, hexc, heob]
    obtain rfl | rfl := h' <;> exact ⟨_, rfl⟩

/-- Every offset symbol is decoded (43 R605). -/
theorem decodeOffset_offsetEntry {s n : Nat} (hs : s < 32) (hn : n ≤ 15) (inb : List Byte) (c : Nat) :
    ∃ i, decodeOffset (offsetEntry s n) inb c = .ok i := by
  have hsym := makeEntry_sym_toNat (tmplOffset Config.reservedSymbolPolicy) (s := s) (n := n) (by omega)
  rw [decodeOffset, hsym]
  rcases Nat.lt_or_ge s 30 with h | h
  · obtain ⟨i, hi⟩ := distInstr_isSome hs (offsetEntry s n).cwbits (extraValue (offsetEntry s n) inb c)
    rw [offsetEntry_of_offset h hn, hi]
    exact ⟨i, rfl⟩
  · obtain ⟨hexc, -⟩ := offsetEntry_of_reserved h hn
    rw [hexc]
    obtain rfl | rfl : s = 30 ∨ s = 31 := by omega
    all_goals exact ⟨_, rfl⟩

/-! ### Lookups in built tables (43 R604) -/

theorem peekBits_lt (inb : List Byte) (c n : Nat) : peekBits inb c n < 2 ^ n := by
  induction n with
  | zero => exact Nat.one_pos
  | succ n ih =>
    rw [peekBits, Nat.pow_succ]
    cases streamBit inb (c + n)
    · rw [Bool.toNat_false]; omega
    · rw [Bool.toNat_true]; omega

/-- What a table holds, an array that begins with the table holds. -/
theorem getD_of_take_eq {t table : List Entry} {j : Nat} {e : Entry} (ht : table.take t.length = t)
    (hj : t[j]? = some e) : table.getD j default = e := by
  have hlt := (List.getElem?_eq_some_iff.mp hj).1
  rw [← ht, List.getElem?_take_of_lt hlt] at hj
  rw [List.getD_eq_getElem?_getD, hj, Option.getD_some]

/-- A lookup in a built table finds a symbol's entry, or raises where a pointer's bits cross the end of IN. -/
theorem State.lookup_symbol {mk : Nat → Nat → Entry} {N T : Nat} {t table : List Entry} (s : State)
    (k : Entry → State → Fetched) (hres : ∀ j, j < 2 ^ T → Resolves mk N T t j) (ht : table.take t.length = t)
    (hsize : t.length ≤ 2 ^ 15) (hT : T ≤ 15) (hmk : ∀ sym n, sym < N → n ≤ 15 → (mk sym n).isPointer = false) :
    (∃ u, s.lookup table T k = .raised u) ∨
    ∃ sym n u, sym < N ∧ n ≤ 15 ∧ s.lookup table T k = k (mk sym n) u := by
  obtain ⟨sym, n, hsym, hn, hj⟩ | ⟨start, bits, hj, -, hbits, hsub⟩ := hres (s.peek T) (peekBits_lt _ _ _)
  · have he := getD_of_take_eq ht hj
    obtain ⟨-, h⟩ | ⟨hp, -⟩ | ⟨hp, -⟩ := s.lookup_cases table T k
    · exact .inr ⟨sym, n, s, hsym, hn, by rw [h, he]⟩
    · rw [he, hmk sym n hsym hn] at hp; cases hp
    · rw [he, hmk sym n hsym hn] at hp; cases hp
  · have he := getD_of_take_eq ht hj
    have hstart : start < 2 ^ 15 := Nat.lt_of_lt_of_le (hsub 0 (Nat.two_pow_pos _)).lt hsize
    obtain ⟨hp, -⟩ | ⟨-, -, h⟩ | ⟨-, -, h⟩ := s.lookup_cases table T k
    · rw [he, pointerEntry_isPointer hbits hT] at hp; cases hp
    · exact .inl ⟨_, h⟩
    · rw [he, pointerEntry_subStart hstart hbits hT, pointerEntry_cwbits hbits hT] at h
      obtain ⟨sym, n, hsym, hn, hk⟩ := hsub _ (peekBits_lt _ _ _)
      exact .inr ⟨sym, n, _, hsym, hn, h.trans (by rw [State.peek, getD_of_take_eq ht hk])⟩

theorem Fetched.ofDecoded_of_ok {d : Except DecodeError Instr} {i : Instr} (s : State) (h : d = .ok i) :
    Fetched.ofDecoded d s = .instr i s := by
  rw [h]
  rfl

theorem buildPrecodeTable_resolves {lens t : List _} (h : buildPrecodeTable lens = .ok t) (hlen : lens.length ≤ 19)
    {j : Nat} (hj : j < 2 ^ 7) : Resolves (makeEntry tmplPrecode) 19 7 t j :=
  buildTable_resolves h hlen (by decide) (by decide) (by decide) (by decide) hj

theorem buildOffsetTable_resolves {lens t : List _} (h : buildOffsetTable lens = .ok t) (hlen : lens.length ≤ 32)
    {j : Nat} (hj : j < 2 ^ 8) : Resolves offsetEntry 32 8 t j :=
  buildTable_resolves h hlen (by decide) (by decide) (by decide) (by decide) hj

theorem buildLitlenTable_resolves {lens t : List _} (h : buildLitlenTable lens = .ok t) (hlen : lens.length ≤ 288)
    {j : Nat} (hj : j < 2 ^ litlenRootBits lens) : Resolves litlenEntry 288 (litlenRootBits lens) t j :=
  buildTable_resolves h hlen (by decide) ((litlenRootBits_le lens).trans (by decide)) (by decide) (by decide) hj

end Sys2Proof.Machine

/-! PROOFS. No step of a state that keeps the invariants stops but at a build (20 R203, 41 R465, 43 R605). -/

namespace Sys2Proof.Machine
open Sys2Proof

/-! ### No fetch stops (43 R605) -/

theorem fetch_of_codeLen {s : State} (hp : s.phase = .codeLen) :
    fetch s = .ofDecoded (decodePresym (s.precodeTable.getD (s.peek 7) default) s.inBuf s.c) s.refill := by
  rw [fetch, hp]
  rfl

theorem fetch_of_body {s : State} (hp : s.phase = .body) :
    fetch s = s.refill.lookup s.litlenTable s.litlenTablebits.toNat
      fun e u => .ofDecoded (decodeLitlen e u.inBuf u.c) u := by
  rw [fetch, hp]

theorem fetch_of_offset {s : State} (hp : s.phase = .offset) :
    fetch s = s.refillForOffset.lookup s.offsetTable 8 fun e u => .ofDecoded (decodeOffset e u.inBuf u.c) u := by
  rw [fetch, hp]
  rfl

/-- A precode table has no subtables (41 R451), so an entry is a symbol's. -/
theorem State.Inv.fetch_codeLen {s : State} (h : s.Inv) (hb : s.busy = true) (hp : s.phase = .codeLen) (f : Fault) :
    fetch s ≠ .stuck f := by
  have hlen : s.precodeLengths.length ≤ 19 := by
    rw [State.precodeLengths, List.length_map, h.sized.precodeLens]
  have ht := h.tables.precode hb hp
  obtain ⟨sym, n, hsym, hn, hj⟩ | ⟨start, bits, hj, hstart, -, hsub⟩ :=
    buildPrecodeTable_resolves ht hlen (peekBits_lt s.inBuf s.c 7)
  · obtain ⟨i, hi⟩ := decodePresym_precodeEntry hsym hn s.inBuf s.c
    have he := getD_of_take_eq (List.take_length ..) hj
    rw [fetch_of_codeLen hp, State.peek, he, Fetched.ofDecoded_of_ok _ hi]
    exact nofun
  · have hlt := (hsub 0 (Nat.two_pow_pos _)).lt
    have hle := buildPrecodeTable_length_le ht
    omega

theorem State.Inv.fetch_body {s : State} (h : s.Inv) (hb : s.busy = true) (hp : s.phase = .body) (f : Fault) :
    fetch s ≠ .stuck f := by
  obtain ⟨-, lens, t, hlen, -, ht, htake, hbits⟩ := h.tables.body hb (.inl hp)
  have hres : ∀ j, j < 2 ^ s.litlenTablebits.toNat → Resolves litlenEntry 288 s.litlenTablebits.toNat t j := by
    rw [hbits]
    exact fun j => buildLitlenTable_resolves ht hlen
  have hT : s.litlenTablebits.toNat ≤ 15 := h.ranged.tablebits.trans (by decide)
  have hsize : t.length ≤ 2 ^ 15 := (buildLitlenTable_length_le ht).trans (by decide)
  rw [fetch_of_body hp]
  obtain ⟨u, he⟩ | ⟨sym, n, u, hsym, hn, he⟩ := s.refill.lookup_symbol
    (fun e u => .ofDecoded (decodeLitlen e u.inBuf u.c) u) hres htake hsize hT
    fun _ _ => litlenEntry_not_isPointer
  · rw [he]; exact nofun
  · obtain ⟨i, hi⟩ := decodeLitlen_litlenEntry hsym hn u.inBuf u.c
    rw [he, Fetched.ofDecoded_of_ok u hi]
    exact nofun

theorem State.Inv.fetch_offset {s : State} (h : s.Inv) (hb : s.busy = true) (hp : s.phase = .offset) (f : Fault) :
    fetch s ≠ .stuck f := by
  obtain ⟨⟨lens, t, hlen, -, ht, htake⟩, -⟩ := h.tables.body hb (.inr hp)
  have hsize : t.length ≤ 2 ^ 15 := (buildOffsetTable_length_le ht).trans (by decide)
  rw [fetch_of_offset hp]
  obtain ⟨u, he⟩ | ⟨sym, n, u, hsym, hn, he⟩ := s.refillForOffset.lookup_symbol
    (fun e u => .ofDecoded (decodeOffset e u.inBuf u.c) u)
    (fun j => buildOffsetTable_resolves ht hlen) htake hsize (by decide) fun _ _ _ => offsetEntry_not_isPointer
  · rw [he]; exact nofun
  · obtain ⟨i, hi⟩ := decodeOffset_offsetEntry hsym hn u.inBuf u.c
    rw [he, Fetched.ofDecoded_of_ok u hi]
    exact nofun

/-- In a state that keeps the invariants every lookup finds an entry that a build made for a symbol. -/
theorem State.Inv.fetch_ne_stuck {s : State} (h : s.Inv) (hb : s.busy = true) (f : Fault) : fetch s ≠ .stuck f := by
  cases hp : s.phase with
  | blockHeader => simp [fetch, hp]
  | precodeLen => simp [fetch, hp]
  | codeLen => exact h.fetch_codeLen hb hp f
  | body => exact h.fetch_body hb hp f
  | offset => exact h.fetch_offset hb hp f

/-- Settles O58: the elements stop at a build only (`Element.onlyBuildStops`), and no fetch stops, since a built table
resolves every index of its root (`buildTable_resolves`). -/
theorem onlyABuildCanStop : Obligations.OnlyABuildCanStop := by
  intro s h
  obtain hstep | ⟨hb, f, hf, -⟩ := step_onlyBuildStops h.out
  · exact hstep
  · exact absurd hf (h.fetch_ne_stuck hb f)

end Sys2Proof.Machine

/-! PROOFS. Fields and codewords as they stand in the stream, and what a peek reads of them (30 R301, R302; 40 R402). -/

namespace Sys2Proof
open Sys2Proof.Machine

/-! ### Lists of bits as numbers -/

@[simp] theorem fieldBits_length (n v : Nat) : (fieldBits n v).length = n := by
  rw [fieldBits, List.length_map, List.length_range]

@[simp] theorem codewordBits_length (len code : Nat) : (codewordBits len code).length = len := by
  rw [codewordBits, List.length_map, List.length_range]

@[simp] theorem symbolBits_length (lens : List Nat) (s : Nat) : (symbolBits lens s).length = lens.getD s 0 :=
  codewordBits_length _ _

theorem bitsValue_append (a b : List Bool) : bitsValue (a ++ b) = bitsValue a + 2 ^ a.length * bitsValue b := by
  induction a with
  | nil => simp [bitsValue]
  | cons x a ih =>
    rw [List.cons_append, bitsValue, bitsValue, ih, List.length_cons, Nat.pow_succ]
    ring

/-- A field's bits, lowest first, are its value (30 R301). -/
theorem bitsValue_fieldBits {n v : Nat} (h : v < 2 ^ n) : bitsValue (fieldBits n v) = v := by
  induction n generalizing v with
  | zero => rw [Nat.lt_one_iff.mp h]; rfl
  | succ n ih =>
    have hcons : fieldBits (n + 1) v = v.testBit 0 :: fieldBits n (v / 2) := by
      simp [fieldBits, List.range_succ_eq_map, Nat.testBit_add_one]
    rw [hcons, bitsValue, ih (by omega), Nat.testBit_zero]
    rcases Nat.mod_two_eq_zero_or_one v with h0 | h1
    · rw [h0, decide_eq_false (by decide), Bool.toNat_false]; omega
    · rw [h1, decide_eq_true rfl, Bool.toNat_true]; omega

/-! ### Peeking (40 R402) -/

/-- The first bit that is peeked is bit 0. -/
theorem peekBits_succ (inb : List Byte) (c n : Nat) :
    peekBits inb c (n + 1) = (streamBit inb c).toNat + 2 * peekBits inb (c + 1) n := by
  induction n with
  | zero => simp [peekBits]
  | succ n ih =>
    rw [peekBits, ih, peekBits, Nat.pow_succ, show c + (n + 1) = c + 1 + n by omega]
    ring

/-- A peek is a peek of its first bits, and of the others above them. -/
theorem peekBits_add (inb : List Byte) (c m n : Nat) :
    peekBits inb c (m + n) = peekBits inb c m + 2 ^ m * peekBits inb (c + m) n := by
  induction n with
  | zero => rw [Nat.add_zero, peekBits, Nat.mul_zero, Nat.add_zero]
  | succ n ih =>
    rw [← Nat.add_assoc, peekBits, ih, peekBits, Nat.pow_add, Nat.add_assoc c]
    ring

theorem streamHolds_cons {inb : List Byte} {c : Nat} {b : Bool} {bits : List Bool} :
    StreamHolds inb c (b :: bits) ↔ streamBit inb c = b ∧ StreamHolds inb (c + 1) bits := by
  constructor
  · exact fun h => ⟨h 0 (Nat.zero_lt_succ _), fun j hj => by
      rw [Nat.add_assoc, Nat.add_comm 1]; exact h (j + 1) (Nat.succ_lt_succ hj)⟩
  · rintro ⟨hb, h⟩ (_ | j) hj
    · exact hb
    · rw [Nat.add_comm j, ← Nat.add_assoc, Nat.add_comm 1]; exact h j (Nat.lt_of_succ_lt_succ hj)

theorem streamHolds_append {inb : List Byte} {c : Nat} {a b : List Bool} :
    StreamHolds inb c (a ++ b) ↔ StreamHolds inb c a ∧ StreamHolds inb (c + a.length) b := by
  induction a generalizing c with
  | nil => simp [StreamHolds]
  | cons x a ih =>
    rw [List.cons_append, streamHolds_cons, streamHolds_cons, ih, and_assoc, List.length_cons,
      show c + (a.length + 1) = c + 1 + a.length by omega]

/-- Peeking over bits that stand at the cursor gives their value. -/
theorem StreamHolds.peekBits {inb : List Byte} {c : Nat} {bits : List Bool} (h : StreamHolds inb c bits) :
    peekBits inb c bits.length = bitsValue bits := by
  induction bits generalizing c with
  | nil => rfl
  | cons b bits ih =>
    obtain ⟨hb, h⟩ := streamHolds_cons.mp h
    rw [List.length_cons, peekBits_succ, hb, ih h, bitsValue]

/-- Peeking over a field that stands at the cursor gives its value (30 R301). -/
theorem StreamHolds.peekBits_field {inb : List Byte} {c n v : Nat} (h : StreamHolds inb c (fieldBits n v))
    (hv : v < 2 ^ n) : Sys2Proof.peekBits inb c n = v := by
  have hp := h.peekBits
  rwa [fieldBits_length, bitsValue_fieldBits hv] at hp

end Sys2Proof

/-! PROOFS. The fixed formats: what stands encoded at the cursor, or is submitted as a command word, is decoded (30
R312, R314, R316). -/

namespace Sys2Proof
open Sys2Proof.Machine

/-! ### Block headers and precode lengths (30 R312, R314) -/

/-- The three bits of a block header that stands at the cursor (30 R312). -/
theorem StreamHolds.blockHeader {inb : List Byte} {c t : Nat} {final : Bool}
    (h : StreamHolds inb c (final :: fieldBits 2 t)) (ht : t < 2 ^ 2) :
    streamBit inb c = final ∧ Sys2Proof.peekBits inb (c + 1) 2 = t := by
  obtain ⟨hfinal, htype⟩ := streamHolds_cons.mp h
  exact ⟨hfinal, htype.peekBits_field ht⟩

theorem decodeBlockHeader_blockDynamic {inb : List Byte} {c : Nat} {final : Bool} {hlit hdist : BitVec 5}
    {hclen : BitVec 4} (h : StreamHolds inb c
      (final :: fieldBits 2 2 ++ fieldBits 5 hlit.toNat ++ fieldBits 5 hdist.toNat ++ fieldBits 4 hclen.toNat)) :
    decodeBlockHeader inb c = .blockDynamic final hlit hdist hclen := by
  obtain ⟨h, hc⟩ := streamHolds_append.mp h
  obtain ⟨h, hd⟩ := streamHolds_append.mp h
  obtain ⟨h, hl⟩ := streamHolds_append.mp h
  obtain ⟨hfinal, htype⟩ := h.blockHeader (by decide)
  simp only [List.length_append, List.length_cons, fieldBits_length, Nat.reduceAdd] at hl hd hc
  simp [decodeBlockHeader, htype, hfinal, hl.peekBits_field hlit.isLt, hd.peekBits_field hdist.isLt,
    hc.peekBits_field hclen.isLt]

theorem decodeBlockHeader_encode {k : Codes} {inb : List Byte} {c : Nat} {i : Instr}
    (hi : ∃ final, i = .blockStored final ∨ i = .blockFixed final ∨ i = .blockReserved final ∨
      ∃ hlit hdist hclen, i = .blockDynamic final hlit hdist hclen)
    (h : StreamHolds inb c (encode k i)) : decodeBlockHeader inb c = i := by
  obtain ⟨final, rfl | rfl | rfl | ⟨hlit, hdist, hclen, rfl⟩⟩ := hi
  case inr.inr.inr => exact decodeBlockHeader_blockDynamic h
  all_goals
    obtain ⟨hfinal, htype⟩ := StreamHolds.blockHeader h (by decide)
    simp [decodeBlockHeader, htype, hfinal]

theorem decodePcl_encode {k : Codes} {inb : List Byte} {c : Nat} {l : BitVec 3}
    (h : StreamHolds inb c (encode k (.pcl l))) : decodePcl inb c = .pcl l := by
  rw [decodePcl, StreamHolds.peekBits_field h l.isLt, BitVec.ofNat_toNat, BitVec.setWidth_eq]

/-! ### Command words (30 R316, R317) -/

/-- The command word with operation `op` in bits 1:0 and `rest` above (30 R316); `commandOf_eq_some` says that commands
are submitted as such words. -/
def commandWord (op rest : Nat) : BitVec 32 := BitVec.ofNat 32 (op + 4 * rest)

theorem commandWord_op {op rest : Nat} (h : op < 4) : ((commandWord op rest).extractLsb' 0 2).toNat = op := by
  rw [commandWord, extractLsb'_ofNat_toNat (by decide)]
  omega

/-- The bits above the operation, as a field. -/
theorem commandWord_above {op n : Nat} (hop : op < 4) (hn : n ≤ 30) (rest : BitVec n) :
    (commandWord op rest.toNat).extractLsb' 2 n = rest := by
  refine BitVec.eq_of_toNat_eq ?_
  rw [commandWord, extractLsb'_ofNat_toNat (by omega), show (op + 4 * rest.toNat) / 2 ^ 2 = rest.toNat by omega,
    Nat.mod_eq_of_lt rest.isLt]

/-- Over two flag bits, bits 31:4 are 0. -/
theorem commandWord_reserved {op flags : Nat} (hop : op < 4) (h : flags < 4) :
    (commandWord op flags).extractLsb' 4 28 = 0 := by
  refine BitVec.eq_of_toNat_eq ?_
  rw [commandWord, extractLsb'_ofNat_toNat (by decide), show (op + 4 * flags) / 2 ^ 4 = 0 by omega]
  rfl

/-- The value of an operation's two bits and of the bits above it. -/
theorem bitsValue_op_append {op : Nat} (h : op < 4) (bits : List Bool) :
    bitsValue (fieldBits 2 op ++ bits) = op + 4 * bitsValue bits := by
  rw [bitsValue_append, bitsValue_fieldBits h, fieldBits_length, show (2 : Nat) ^ 2 = 4 by decide]

/-- What each command instruction is submitted as, and that no stream element is (30 R316, R317). -/
theorem commandOf_eq_some {i : Instr} {m : HostCmd} (h : commandOf i = some m) :
    (∃ flags : BitVec 2, i = .cmdReset flags ∧ m = ⟨commandWord 0 flags.toNat, [], 0⟩) ∨
    (∃ wantIn wantOut inBytes outN, i = .cmdDecompress wantIn wantOut inBytes outN ∧
      m = ⟨commandWord 1 (wantIn.toNat + 2 * wantOut.toNat), inBytes, outN⟩) ∨
    (∃ rest : BitVec 30, i = .cmdReserved2 rest ∧ m = ⟨commandWord 2 rest.toNat, [], 0⟩) ∨
    (∃ rest : BitVec 30, i = .cmdReserved3 rest ∧ m = ⟨commandWord 3 rest.toNat, [], 0⟩) := by
  cases i with
  | cmdReset flags =>
    refine .inl ⟨flags, rfl, ?_⟩
    have hbits : bitsValue (encode fixedCodes (.cmdReset flags)) = 0 + 4 * flags.toNat := by
      show bitsValue (fieldBits 2 0 ++ fieldBits 2 flags.toNat ++ fieldBits 28 0) = _
      rw [List.append_assoc, bitsValue_op_append (by decide), bitsValue_append, bitsValue_fieldBits flags.isLt,
        bitsValue_fieldBits (by decide), Nat.mul_zero, Nat.add_zero]
    simpa [commandOf, Instr.layout, hbits, commandWord] using h.symm
  | cmdDecompress wantIn wantOut inBytes outN =>
    refine .inr (.inl ⟨wantIn, wantOut, inBytes, outN, rfl, ?_⟩)
    have hbits : bitsValue (encode fixedCodes (.cmdDecompress wantIn wantOut inBytes outN)) =
        1 + 4 * (wantIn.toNat + 2 * wantOut.toNat) := by
      show bitsValue (fieldBits 2 1 ++ [wantIn, wantOut] ++ fieldBits 28 0) = _
      rw [List.append_assoc, bitsValue_op_append (by decide), bitsValue_append, bitsValue_fieldBits (by decide)]
      rfl
    simpa [commandOf, hbits, commandWord] using h.symm
  | cmdReserved2 rest =>
    refine .inr (.inr (.inl ⟨rest, rfl, ?_⟩))
    have hbits : bitsValue (encode fixedCodes (.cmdReserved2 rest)) = 2 + 4 * rest.toNat :=
      (bitsValue_op_append (by decide) _).trans (by rw [bitsValue_fieldBits rest.isLt])
    simpa [commandOf, Instr.layout, hbits, commandWord] using h.symm
  | cmdReserved3 rest =>
    refine .inr (.inr (.inr ⟨rest, rfl, ?_⟩))
    have hbits : bitsValue (encode fixedCodes (.cmdReserved3 rest)) = 3 + 4 * rest.toNat :=
      (bitsValue_op_append (by decide) _).trans (by rw [bitsValue_fieldBits rest.isLt])
    simpa [commandOf, Instr.layout, hbits, commandWord] using h.symm
  | _ => simp [commandOf, Instr.layout] at h

theorem decodeCommand_commandOf {i : Instr} {m : HostCmd} (h : commandOf i = some m) : decodeCommand m = .ok i := by
  obtain ⟨flags, rfl, rfl⟩ | ⟨wantIn, wantOut, inBytes, outN, rfl, rfl⟩ | ⟨rest, rfl, rfl⟩ | ⟨rest, rfl, rfl⟩ :=
    commandOf_eq_some h
  · have hop := commandWord_op (op := 0) (rest := flags.toNat) (by decide)
    simp [decodeCommand, hop, commandWord_reserved, flags.isLt, commandWord_above]
  · cases wantIn <;> cases wantOut <;> simp [decodeCommand, commandWord]
  · have hop := commandWord_op (op := 2) (rest := rest.toNat) (by decide)
    simp [decodeCommand, hop, commandWord_above]
  · have hop := commandWord_op (op := 3) (rest := rest.toNat) (by decide)
    simp [decodeCommand, hop, commandWord_above]

/-- Settles O20: the bits of each field stand where its decoder peeks, and a command word holds its operation in bits
1:0 and its operands above. -/
theorem fixedFormatsRoundTrip : Obligations.FixedFormatsRoundTrip :=
  ⟨fun _ _ _ _ => decodeBlockHeader_encode, fun _ _ _ _ => decodePcl_encode, fun _ _ => decodeCommand_commandOf⟩

/-- Settles O4: each of the decoders is evaluated on the bytes, entries and words written out. -/
theorem decodedWords : Obligations.DecodedWords := by
  unfold Obligations.DecodedWords
  decide

end Sys2Proof

/-! PROOFS. Length and offset symbols as instructions: their layout, their meaning and their expansion (30 R309, R310,
R324). -/

namespace Sys2Proof
open Sys2Proof.Machine

/-! ### Length symbols (30 R309, R311) -/

/-- A lit/len element is a literal, the end of a block, or a length symbol's instruction. -/
theorem litlen_layout_cases {i : Instr} {sym cw xw x : Nat} (h : i.layout = .coded .litlen sym cw xw x) :
    (∃ b : Byte, i = .lit (BitVec.ofNat 4 cw) b ∧ sym = b.toNat) ∨
    (i = .eob (BitVec.ofNat 4 cw) ∧ sym = 256) ∨
    (257 ≤ sym ∧ sym < 288 ∧ lenInstr sym (BitVec.ofNat 4 cw) x = some i ∧ xw = lenExtra sym ∧ x < 2 ^ xw) := by
  cases i <;> cases h
  case lit cw b => exact .inl ⟨b, by simp⟩
  case eob cw => exact .inr (.inl (by simp))
  all_goals exact .inr (.inr ⟨by decide, by decide, by simp [lenInstr], rfl, by omega⟩)

/-- The meaning of a length symbol, by the table of 30 R309. -/
theorem exec_of_length_layout {i : Instr} {sym cw xw x : Nat} (h : i.layout = .coded .litlen sym cw xw x)
    (hmin : 257 ≤ sym) (hmax : sym ≤ 285) (s : State) : exec i s = s.lengthElement (cw + xw) (lenBase sym + x) := by
  cases i <;> cases h
  case lit cw b => exact absurd b.isLt (by omega)
  case eob cw => exact absurd hmin (by decide)
  case len286 cw => exact absurd hmax (by decide)
  case len287 cw => exact absurd hmax (by decide)
  all_goals rfl

/-- Settles O37: a length symbol is a consume of its codeword and extra bits that leaves its length for the offset
symbol (`exec_of_length_layout`). -/
theorem lengthSymbols : Obligations.LengthSymbols := by
  refine ⟨by decide, fun i s sym cw xw x h hmin hmax => ?_⟩
  obtain ⟨b, -, rfl⟩ | ⟨-, rfl⟩ | ⟨-, -, -, hxw, hx⟩ := litlen_layout_cases h
  · exact absurd b.isLt (by omega)
  · exact absurd hmin (by decide)
  · refine ⟨hxw, hx, fun hin => ?_⟩
    rw [exec_of_length_layout h hmin hmax, State.lengthElement, State.consume_of_le hin]
    rfl

/-! ### Offset symbols (30 R310, R311) -/

/-- An offset element is an offset symbol's instruction. -/
theorem offset_layout_cases {i : Instr} {sym cw xw x : Nat} (h : i.layout = .coded .offset sym cw xw x) :
    sym < 32 ∧ distInstr sym (BitVec.ofNat 4 cw) x = some i ∧ xw = offExtra sym ∧ x < 2 ^ xw := by
  cases i <;> cases h
  all_goals exact ⟨by decide, by simp [distInstr], rfl, by omega⟩

/-! ### MATCH (30 R324) -/

/-- A length symbol's instruction is laid out as its codeword and its extra bits. -/
theorem layout_of_lenInstr {sym v : Nat} {cw : BitVec 4} {i : Instr} (h : lenInstr sym cw v = some i) :
    i.layout = .coded .litlen sym cw.toNat (lenExtra sym) (v % 2 ^ lenExtra sym) := by
  unfold lenInstr at h
  split at h <;> cases h
  all_goals simp [Instr.layout, lenExtra, lenExtras, Nat.mod_one]

/-- An offset symbol's instruction is laid out as its codeword and its extra bits. -/
theorem layout_of_distInstr {sym v : Nat} {cw : BitVec 4} {i : Instr} (h : distInstr sym cw v = some i) :
    i.layout = .coded .offset sym cw.toNat (offExtra sym) (v % 2 ^ offExtra sym) := by
  unfold distInstr at h
  split at h <;> cases h
  all_goals simp [Instr.layout, offExtra, offExtras, Nat.mod_one]

/-- In a rising list the elements up to `v` stand before all others. -/
theorem lt_length_filter_le_iff {bases : List Nat} (hs : bases.Pairwise (· < ·)) (v : Nat) {j : Nat}
    (hj : j < bases.length) : j < (bases.filter fun b => b ≤ v).length ↔ bases.getD j 0 ≤ v := by
  induction bases generalizing j with
  | nil => exact absurd hj (Nat.not_lt_zero j)
  | cons b bases ih =>
    obtain ⟨hb, hs⟩ := List.pairwise_cons.mp hs
    by_cases hv : b ≤ v
    · rw [List.filter_cons_of_pos (by simpa using hv), List.length_cons]
      cases j with
      | zero => simpa using hv
      | succ j => rw [Nat.succ_lt_succ_iff, ih hs (Nat.lt_of_succ_lt_succ hj), List.getD_cons_succ]
    · have hnil : bases.filter (fun b => b ≤ v) = [] := List.filter_eq_nil_iff.mpr fun a ha => by
        have := hb a ha
        simpa using (by omega : v < a)
      rw [List.filter_cons_of_neg (by simpa using hv), hnil]
      cases j with
      | zero => simpa using hv
      | succ j =>
        have hj' := Nat.lt_of_succ_lt_succ hj
        have := hb _ (List.getElem_mem hj')
        rw [List.getD_cons_succ, List.getD_eq_getElem _ _ hj', List.length_nil]
        omega

/-- The symbol of a value (30 R324): it exists, its base is at most the value, and the rest fits its extra bits, where
each range ends at the next base at the latest. -/
theorem lastBase_spec {bases extras : List Nat} {v : Nat} (hs : bases.Pairwise (· < ·)) (hne : 0 < bases.length)
    (hfirst : bases.getD 0 0 ≤ v) (hlast : v < bases.getD (bases.length - 1) 0 + 2 ^ extras.getD (bases.length - 1) 0)
    (hstep : ∀ k, k < bases.length - 1 → bases.getD (k + 1) 0 ≤ bases.getD k 0 + 2 ^ extras.getD k 0) :
    lastBase bases v < bases.length ∧ bases.getD (lastBase bases v) 0 ≤ v ∧
      v - bases.getD (lastBase bases v) 0 < 2 ^ extras.getD (lastBase bases v) 0 := by
  have hcount : (bases.filter fun b => b ≤ v).length ≤ bases.length := List.length_filter_le _ _
  have hpos := (lt_length_filter_le_iff hs v hne).mpr hfirst
  obtain ⟨k, hk⟩ : ∃ k, (bases.filter fun b => b ≤ v).length = k + 1 := ⟨_, (Nat.succ_pred_eq_of_pos hpos).symm⟩
  have hlastBase : lastBase bases v = k := by rw [lastBase, hk, Nat.add_sub_cancel]
  have hbase := (lt_length_filter_le_iff hs v (j := k) (by omega)).mp (by omega)
  rw [hlastBase]
  refine ⟨by omega, hbase, ?_⟩
  rcases Nat.lt_or_ge (k + 1) bases.length with hnext | hend
  · have hv := (lt_length_filter_le_iff hs v hnext).not.mp (by omega)
    have hwidth := hstep k (by omega)
    omega
  · rw [show bases.length - 1 = k by omega] at hlast
    omega

theorem lengthSymbol_spec {len : Nat} (hmin : 3 ≤ len) (hmax : len ≤ 258) :
    lastBase lenBases len < 29 ∧ lenBase (257 + lastBase lenBases len) ≤ len ∧
      len - lenBase (257 + lastBase lenBases len) < 2 ^ lenExtra (257 + lastBase lenBases len) := by
  rw [lenBase, lenExtra, Nat.add_sub_cancel_left]
  exact lastBase_spec (by decide) (by decide) hmin (Nat.lt_succ_of_le hmax) (by decide)

theorem offsetSymbol_spec {dist : Nat} (hmin : 1 ≤ dist) (hmax : dist ≤ 32768) :
    lastBase offBases dist < 30 ∧ offBase (lastBase offBases dist) ≤ dist ∧
      dist - offBase (lastBase offBases dist) < 2 ^ offExtra (lastBase offBases dist) :=
  lastBase_spec (by decide) (by decide) hmin (Nat.lt_succ_of_le hmax) (by decide)

/-- Settles O23: the last base at most a value is that of the symbol whose range holds it (`lastBase_spec`). -/
theorem matchExpansion : Obligations.MatchExpansion := by
  refine ⟨fun k len dist hlmin hlmax hdmin hdmax => ?_, fun k len dist h => if_neg h⟩
  obtain ⟨hs, hsbase, hsextra⟩ := lengthSymbol_spec hlmin hlmax
  obtain ⟨hd, hdbase, hdextra⟩ := offsetSymbol_spec hdmin hdmax
  obtain ⟨i, hi⟩ := lenInstr_isSome (s := 257 + lastBase lenBases len) (by omega) (by omega)
    (BitVec.ofNat 4 (k.litlen.getD (257 + lastBase lenBases len) 0)) (len - lenBase (257 + lastBase lenBases len))
  obtain ⟨j, hj⟩ := distInstr_isSome (s := lastBase offBases dist) (by omega)
    (BitVec.ofNat 4 (k.offset.getD (lastBase offBases dist) 0)) (dist - offBase (lastBase offBases dist))
  have hli := layout_of_lenInstr hi
  have hlj := layout_of_distInstr hj
  rw [Nat.mod_eq_of_lt hsextra] at hli
  rw [Nat.mod_eq_of_lt hdextra] at hlj
  refine ⟨i, j, _, _, _, _, _, _, _, _, ?_, hli, by omega, by omega, hsextra, by omega, hlj, by omega, hdextra,
    by omega, ?_⟩
  · simp only [matchInstrs, hlmin, hlmax, hdmin, hdmax, and_self, if_true, hi, hj]
  · rintro rfl
    decide

end Sys2Proof

/-! PROOFS. Every instruction has a meaning, and no step is refused (30 R300, R321). -/

namespace Sys2Proof.Machine
open Sys2Proof

/-! ### What a meaning answers -/

/-- The outcome is a next state or a stop, no refusal. -/
def NotRefused (o : Out) : Prop := ∀ r, o ≠ .refused r

theorem notRefused_next (t : State) : NotRefused (.next t) := nofun

theorem notRefused_fault (f : Fault) : NotRefused (.fault f) := nofun

theorem OnlyBuildStops.notRefused {o : Out} (h : OnlyBuildStops o) : NotRefused o := by
  obtain ⟨t, rfl⟩ | rfl := h
  · exact notRefused_next t
  · exact notRefused_fault _

theorem State.consume_notRefused {s : State} {n : Nat} {k : State → Out} (hk : ∀ u, NotRefused (k u)) :
    NotRefused (s.consume n k) := by
  obtain ⟨-, h⟩ | ⟨-, h⟩ := s.consume_cases n k <;> rw [h]
  · exact notRefused_next _
  · exact hk _

theorem State.doMatch_notRefused (offset : Nat) (s : State) : NotRefused (s.doMatch offset) := by
  obtain ⟨-, h⟩ | ⟨-, -, h⟩ | ⟨-, -, ⟨-, h⟩ | ⟨t, -, h⟩⟩ := s.doMatch_cases offset <;> rw [h]
  · exact notRefused_next _
  · exact notRefused_next _
  · exact notRefused_fault _
  · exact notRefused_next _

/-! ### Every instruction -/

/-- The meaning of a length symbol, a reserved one among them. -/
theorem exec_notRefused_of_lenInstr {sym v : Nat} {cw : BitVec 4} {i : Instr} (h : lenInstr sym cw v = some i)
    (s : State) : NotRefused (exec i s) := by
  unfold lenInstr at h
  split at h <;> cases h
  case h_30 | h_31 => exact notRefused_next _
  all_goals exact State.consume_notRefused fun _ => notRefused_next _

/-- The meaning of an offset symbol, a reserved one among them. -/
theorem exec_notRefused_of_distInstr {sym v : Nat} {cw : BitVec 4} {i : Instr} (h : distInstr sym cw v = some i)
    (s : State) : NotRefused (exec i s) := by
  unfold distInstr at h
  split at h <;> cases h
  case h_31 | h_32 => exact notRefused_next _
  all_goals exact State.consume_notRefused (State.doMatch_notRefused _)

/-- The meaning of an element of fixed bits: a block header, a precode length or a command. -/
theorem exec_notRefused_of_fixed {i : Instr} {bits : List Bool} (h : i.layout = .fixed bits) (s : State) :
    NotRefused (exec i s) := by
  cases i <;> cases h
  case blockStored final =>
    exact (State.blockHeader_onlyBuildStops State.storedBlock_onlyBuildStops).notRefused
  case blockFixed final =>
    exact (State.blockHeader_onlyBuildStops State.fixedBlock_onlyBuildStops).notRefused
  case blockDynamic final hlit hdist hclen =>
    exact (State.blockHeader_onlyBuildStops fun u => u.dynamicBlock_onlyBuildStops hlit hdist hclen).notRefused
  case blockReserved final =>
    exact (State.blockHeader_onlyBuildStops fun _ => onlyBuildStops_next _).notRefused
  case pcl l => exact State.consume_notRefused fun _ => (State.afterPrecodeLen_onlyBuildStops _).notRefused
  case cmdReset flags =>
    show NotRefused (if s.busy then .next s.refuse else .next s.resetObject)
    split <;> exact notRefused_next _
  case cmdDecompress wantIn wantOut inBytes outN =>
    show NotRefused (if s.busy then .next s.refuse else .next (s.accept wantIn wantOut inBytes outN))
    split <;> exact notRefused_next _
  case cmdReserved2 rest => exact notRefused_next _
  case cmdReserved3 rest => exact notRefused_next _

theorem State.writeRun_notRefused (r : Nat) (v : BitVec 4) (s : State) : NotRefused (s.writeRun r v) :=
  (s.writeRun_onlyBuildStops r v).notRefused

theorem execClRepPrev_notRefused (cw : BitVec 4) (x : BitVec 2) (s : State) : NotRefused (execClRepPrev cw x s) :=
  State.consume_notRefused fun u => by
    split
    · exact notRefused_next _
    · exact State.consume_notRefused fun v => State.writeRun_notRefused _ _ v

/-- The meaning of a precode symbol. -/
theorem exec_notRefused_of_presym {i : Instr} {sym cw xw x : Nat} (h : i.layout = .coded .presym sym cw xw x)
    (s : State) : NotRefused (exec i s) := by
  cases i <;> cases h
  case cl cw n => exact State.consume_notRefused (State.writeRun_notRefused 1 n)
  case clRepPrev cw x => exact execClRepPrev_notRefused cw x s
  case clZero cw x =>
    exact State.consume_notRefused fun u => State.consume_notRefused (State.writeRun_notRefused _ _)
  case clZeroLong cw x =>
    exact State.consume_notRefused fun u => State.consume_notRefused (State.writeRun_notRefused _ _)

theorem execLit_notRefused (cw : BitVec 4) (b : Byte) (s : State) : NotRefused (execLit cw b s) :=
  State.consume_notRefused fun u => by
    split
    · exact notRefused_next _
    · exact notRefused_next _

theorem execEob_notRefused (cw : BitVec 4) (s : State) : NotRefused (execEob cw s) :=
  State.consume_notRefused fun _ => notRefused_next _

/-- Only these three formats are coded (30 R300). -/
theorem layout_format {i : Instr} {f : Format} {sym cw xw x : Nat} (h : i.layout = .coded f sym cw xw x) :
    f = .presym ∨ f = .litlen ∨ f = .offset := by
  cases i <;> cases h <;> decide

theorem exec_notRefused (i : Instr) (s : State) : NotRefused (exec i s) := by
  cases h : i.layout with
  | fixed bits => exact exec_notRefused_of_fixed h s
  | coded f sym cw xw x =>
    obtain rfl | rfl | rfl := layout_format h
    · exact exec_notRefused_of_presym h s
    · obtain ⟨b, rfl, -⟩ | ⟨rfl, -⟩ | ⟨-, -, hi, -⟩ := litlen_layout_cases h
      · exact execLit_notRefused _ b s
      · exact execEob_notRefused _ s
      · exact exec_notRefused_of_lenInstr hi s
    · obtain ⟨-, hi, -⟩ := offset_layout_cases h
      exact exec_notRefused_of_distInstr hi s

/-- Settles O48: every meaning ends in a next state or a stop (`exec_notRefused`), and a step that executes none does so
too. -/
theorem noInstructionIsRefused : Obligations.NoInstructionIsRefused := by
  refine ⟨exec_notRefused, fun s => ?_⟩
  obtain ⟨m, i, -, -, h⟩ | ⟨m, e, -, -, h⟩ | ⟨-, -, i, u, -, h⟩ | ⟨-, -, u, -, h⟩ | ⟨-, -, f, -, h⟩ | ⟨-, -, h⟩ :=
    step_cases s <;> rw [h]
  · exact exec_notRefused i _
  · exact notRefused_next _
  · exact exec_notRefused i u
  · exact notRefused_next _
  · exact notRefused_fault f
  · exact notRefused_next _

end Sys2Proof.Machine

/-! PROOFS. The fixed code (30 R320). -/

namespace Sys2Proof
open Sys2Proof.Machine

/-! ### The fixed codewords (30 R320) -/

/-- The fixed lengths, run by run (42 R511). -/
theorem fixedLitlenLens_getD {s : Nat} (hs : s < 288) :
    fixedLitlenLens.getD s 0 = if s < 144 then 8 else if s < 256 then 9 else if s < 280 then 7 else 8 := by
  simp only [fixedLitlenLens, List.getD_eq_getElem?_getD, List.getElem?_append, List.getElem?_replicate,
    List.length_append, List.length_replicate]
  grind

/-- How many symbols below `s` have a fixed length of `l` bits, run by run (42 R511). -/
theorem fixedLitlenLens_take_count (s l : Nat) : (fixedLitlenLens.take s).count l =
    (if l = 8 then min s 144 + min (s - 280) 8 else 0) + (if l = 9 then min (s - 144) 112 else 0) +
      (if l = 7 then min (s - 256) 24 else 0) := by
  simp only [fixedLitlenLens, List.take_append, List.take_replicate, List.count_append, List.count_replicate,
    List.length_append, List.length_replicate, beq_iff_eq]
  grind

/-- The first codeword of each fixed length (41 R468). -/
theorem fixedLitlen_firstCode :
    firstCode fixedLitlenLens 7 = 0 ∧ firstCode fixedLitlenLens 8 = 0x30 ∧ firstCode fixedLitlenLens 9 = 0x190 := by
  decide +kernel

/-- The table of 30 R320: a lit/len symbol's length and codeword. -/
theorem fixedLitlen_codeword {s : Nat} (hs : s < 288) : (fixedLitlenLens.getD s 0, canonCode fixedLitlenLens s) =
    if s < 144 then (8, 0x30 + s) else if s < 256 then (9, 0x190 + (s - 144))
    else if s < 280 then (7, s - 256) else (8, 0xC0 + (s - 280)) := by
  obtain ⟨h7, h8, h9⟩ := fixedLitlen_firstCode
  rw [canonCode, fixedLitlenLens_take_count, fixedLitlenLens_getD hs]
  split_ifs <;> simp [h7, h8, h9] <;> omega

/-- An offset symbol's fixed codeword is its number, on 5 bits (30 R320). -/
theorem fixedOffset_codeword {d : Nat} (hd : d < 32) :
    (fixedOffsetLens.getD d 0, canonCode fixedOffsetLens d) = (5, d) := by
  have hlen : fixedOffsetLens.getD d 0 = 5 := List.getD_replicate _ hd
  have hfirst : firstCode fixedOffsetLens 5 = 0 := by decide +kernel
  rw [canonCode, hlen, hfirst, fixedOffsetLens, List.take_replicate, List.count_replicate_self, Nat.zero_add,
    Nat.min_eq_left (Nat.le_of_lt hd)]

/-- Settles O19: symbols of one length are numbered in order, from the first codeword of the length on. -/
theorem fixedCodewords : Obligations.FixedCodewords :=
  ⟨by decide +kernel, by decide +kernel, fun _ => fixedLitlen_codeword, fun _ => fixedOffset_codeword⟩

end Sys2Proof

/-! PROOFS. An encoded lit/len or offset symbol is decoded from its entry, under any code (30 R303 to R311, 43 R605,
R606). -/

namespace Sys2Proof
open Sys2Proof.Machine

/-! ### Fields of entries (30 R303 to R308) -/

/-- An entry's codeword bits, where extra bits and codeword do not carry into them. -/
theorem makeEntry_cwbits {tmpl : Nat → Nat} {s n : Nat} (h : tmpl s % 2 ^ 12 + n < 2 ^ 8) :
    (makeEntry tmpl s n).cwbits = BitVec.ofNat 4 n := by
  refine BitVec.eq_of_toNat_eq ?_
  have hfield : (tmpl s + n * 2 ^ 8 + n) / 2 ^ 8 = 2 ^ 4 * (tmpl s / 2 ^ 12) + n := by omega
  rw [Entry.cwbits, makeEntry, extractLsb'_ofNat_toNat (by decide), BitVec.toNat_ofNat, hfield, Nat.mul_add_mod]

/-- The bits an entry's element takes: its codeword and its extra bits. -/
theorem makeEntry_nbits {tmpl : Nat → Nat} {s n : Nat} (h : tmpl s % 2 ^ 12 + n < 2 ^ 8) :
    (makeEntry tmpl s n).nbits = n + tmpl s % 2 ^ 12 := by
  rw [Entry.nbits, makeEntry, extractLsb'_ofNat_toNat (by decide)]
  omega

/-- A literal's entry holds its byte (30 R304). -/
theorem litlenEntry_litByte (b : Byte) {n : Nat} (hn : n ≤ 15) : (litlenEntry b.toNat n).litByte = b := by
  have hb := b.isLt
  have ht : tmplLitlen Config.reservedSymbolPolicy b.toNat = 0x80000000 + b.toNat * 2 ^ 16 := if_pos hb
  have hfield : (0x80000000 + b.toNat * 2 ^ 16 + n * 2 ^ 8 + n) / 2 ^ 16 = 2 ^ 8 * 0x80 + b.toNat := by omega
  refine BitVec.eq_of_toNat_eq ?_
  rw [Entry.litByte, litlenEntry, makeEntry, extractLsb'_ofNat_toNat (by decide), ht, hfield,
    Nat.mul_add_mod, Nat.mod_eq_of_lt hb]

/-- The low bits of a lit/len symbol's template are its number of extra bits. -/
theorem tmplLitlen_mod {s : Nat} (hs : s < 288) : tmplLitlen Config.reservedSymbolPolicy s % 2 ^ 12 = lenExtra s := by
  have hextra := lenExtra_le s
  show tmplLitlen .reject s % 2 ^ 12 = lenExtra s
  obtain h | rfl | ⟨h, h'⟩ | ⟨-, rfl | rfl⟩ := litlen_classes hs
  · rw [tmplLitlen, if_pos h, lenExtra, Nat.sub_eq_zero_of_le (by omega)]
    show _ = 0
    omega
  · rfl
  · rw [tmplLitlen, if_neg (by omega), if_neg (by omega), if_pos h']
    omega
  · rfl
  · rfl

/-- The low bits of an offset symbol's template are its number of extra bits. -/
theorem tmplOffset_mod {d : Nat} (hd : d < 32) : tmplOffset Config.reservedSymbolPolicy d % 2 ^ 12 = offExtra d := by
  have hextra := offExtra_le d
  show tmplOffset .reject d % 2 ^ 12 = offExtra d
  rcases Nat.lt_or_ge d 30 with h | h
  · rw [tmplOffset, if_pos h]
    omega
  · obtain rfl | rfl : d = 30 ∨ d = 31 := by omega
    all_goals rfl

theorem litlenEntry_cwbits {s n : Nat} (hs : s < 288) (hn : n ≤ 15) : (litlenEntry s n).cwbits = BitVec.ofNat 4 n :=
  makeEntry_cwbits (by rw [tmplLitlen_mod hs]; have := lenExtra_le s; omega)

theorem offsetEntry_cwbits {d n : Nat} (hd : d < 32) (hn : n ≤ 15) : (offsetEntry d n).cwbits = BitVec.ofNat 4 n :=
  makeEntry_cwbits (by rw [tmplOffset_mod hd]; have := offExtra_le d; omega)

theorem litlenEntry_nbits {s n : Nat} (hs : s < 288) (hn : n ≤ 15) : (litlenEntry s n).nbits = n + lenExtra s := by
  rw [← tmplLitlen_mod hs]
  exact makeEntry_nbits (by rw [tmplLitlen_mod hs]; have := lenExtra_le s; omega)

theorem offsetEntry_nbits {d n : Nat} (hd : d < 32) (hn : n ≤ 15) : (offsetEntry d n).nbits = n + offExtra d := by
  rw [← tmplOffset_mod hd]
  exact makeEntry_nbits (by rw [tmplOffset_mod hd]; have := offExtra_le d; omega)

/-! ### Extra bits and elements (43 R605, R606) -/

/-- The extra value of an entry is the field behind the codeword (43 R606). -/
theorem StreamHolds.extraValue {e : Entry} {inb : List Byte} {c n xw x : Nat}
    (h : StreamHolds inb (c + n) (fieldBits xw x)) (hx : x < 2 ^ xw) (hn : n ≤ 15) (hcw : e.cwbits = BitVec.ofNat 4 n)
    (hbits : e.nbits = n + xw) : Sys2Proof.extraValue e inb c = x := by
  have hpeek := peekBits_lt inb c n
  rw [Sys2Proof.extraValue, hbits, hcw, BitVec.toNat_ofNat, Nat.mod_eq_of_lt (by omega), peekBits_add,
    Nat.add_mul_div_left _ _ (Nat.two_pow_pos n), Nat.div_eq_of_lt hpeek, Nat.zero_add, h.peekBits_field hx]

/-- A lit/len element with its extra bits behind the codeword is decoded from its symbol's entry. -/
theorem decodeLitlen_of_layout {i : Instr} {sym cw xw x c : Nat} {inb : List Byte}
    (h : i.layout = .coded .litlen sym cw xw x) (hcw : cw ≤ 15) (hextra : StreamHolds inb (c + cw) (fieldBits xw x)) :
    decodeLitlen (litlenEntry sym cw) inb c = .ok i := by
  obtain ⟨b, rfl, rfl⟩ | ⟨rfl, rfl⟩ | ⟨hmin, hmax, hi, hxw, hx⟩ := litlen_layout_cases h
  · obtain ⟨hlit, -⟩ := litlenEntry_of_literal b.isLt hcw
    rw [decodeLitlen, if_pos hlit, litlenEntry_cwbits (Nat.lt_trans b.isLt (by decide)) hcw, litlenEntry_litByte b hcw]
  · obtain ⟨hlit, hexc, heob, -⟩ := litlenEntry_endOfBlock hcw
    rw [decodeLitlen, Entry.isEob, hlit, hexc, heob, litlenEntry_cwbits (by decide) hcw]
    rfl
  · have hsym := makeEntry_sym_toNat (tmplLitlen Config.reservedSymbolPolicy) (n := cw) hmax
    have hcwbits := litlenEntry_cwbits hmax hcw
    rcases Nat.lt_or_ge sym 286 with hlen | hres
    · obtain ⟨hlit, hexc⟩ := litlenEntry_of_length hmin hlen hcw
      have hnbits : (litlenEntry sym cw).nbits = cw + xw := hxw ▸ litlenEntry_nbits hmax hcw
      rw [decodeLitlen, Entry.isEob, hlit, hexc, hsym, hextra.extraValue hx hcw hcwbits hnbits, hcwbits, hi]
      rfl
    · obtain ⟨hlit, hexc, heob, -⟩ := litlenEntry_of_reserved hres hcw
      rw [decodeLitlen, Entry.isEob, hlit, hexc, heob, hsym, hcwbits]
      obtain rfl | rfl : sym = 286 ∨ sym = 287 := by omega
      all_goals cases hi; rfl

/-- An offset element with its extra bits behind the codeword is decoded from its symbol's entry. -/
theorem decodeOffset_of_layout {i : Instr} {sym cw xw x c : Nat} {inb : List Byte}
    (h : i.layout = .coded .offset sym cw xw x) (hcw : cw ≤ 15) (hextra : StreamHolds inb (c + cw) (fieldBits xw x)) :
    decodeOffset (offsetEntry sym cw) inb c = .ok i := by
  obtain ⟨hmax, hi, rfl, hx⟩ := offset_layout_cases h
  have hsym := makeEntry_sym_toNat (tmplOffset Config.reservedSymbolPolicy) (s := sym) (n := cw) (by omega)
  have hcwbits := offsetEntry_cwbits hmax hcw
  rcases Nat.lt_or_ge sym 30 with hoff | hres
  · rw [decodeOffset, offsetEntry_of_offset hoff hcw, hsym,
      hextra.extraValue hx hcw hcwbits (offsetEntry_nbits hmax hcw), hcwbits, hi]
    rfl
  · obtain ⟨hexc, -⟩ := offsetEntry_of_reserved hres hcw
    rw [decodeOffset, hexc, hsym, hcwbits]
    obtain rfl | rfl : sym = 30 ∨ sym = 31 := by omega
    all_goals cases hi; rfl

end Sys2Proof

/-! PROOFS. The fixed tables decode the fixed code (30 R320, 41 R470, 43 R604). -/

namespace Sys2Proof.Machine
open Sys2Proof

/-! ### Codewords at the cursor (30 R302) -/

theorem bitsValue_lt (bits : List Bool) : bitsValue bits < 2 ^ bits.length := by
  induction bits with
  | nil => exact Nat.one_pos
  | cons b bits ih =>
    have hb := Bool.toNat_lt b
    rw [bitsValue, List.length_cons, Nat.pow_succ]
    omega

/-- A codeword's last bit is its lowest. -/
theorem codewordBits_succ (l code : Nat) :
    codewordBits (l + 1) code = codewordBits l (code / 2) ++ [code.testBit 0] := by
  have hlast : (code.testBit (l + 1 - 1 - l)) = code.testBit 0 := by rw [Nat.add_sub_cancel, Nat.sub_self]
  rw [codewordBits, List.range_succ, List.map_append, List.map_singleton, codewordBits, hlast]
  refine congrArg (· ++ _) (List.map_congr_left fun i hi => ?_)
  have hi := List.mem_range.mp hi
  rw [← Nat.testBit_add_one, show l - 1 - i + 1 = l + 1 - 1 - i by omega]

/-- A codeword's bits, read in reverse, are the codeword. -/
theorem revBits_codewordBits {l code : Nat} (h : code < 2 ^ l) :
    revBits l (bitsValue (codewordBits l code)) = code := by
  induction l generalizing code with
  | zero => exact (Nat.lt_one_iff.mp h).symm
  | succ l ih =>
    have hlt := bitsValue_lt (codewordBits l (code / 2))
    have hlow := revBits_mod l (bitsValue (codewordBits (l + 1) code))
    rw [codewordBits_length] at hlt
    rw [codewordBits_succ, bitsValue_append, codewordBits_length] at hlow ⊢
    rw [Nat.add_mul_mod_self_left, revBits_mod, ih (by omega)] at hlow
    rw [revBits, ← hlow, Nat.add_mul_div_left _ _ (Nat.two_pow_pos l), Nat.div_eq_of_lt hlt, Nat.testBit_zero]
    rcases Nat.mod_two_eq_zero_or_one code with h0 | h1
    · rw [h0]; show 2 * (code / 2) + 0 = code; omega
    · rw [h1]; show 2 * (code / 2) + 1 = code; omega

/-- A codeword at the cursor is read in reverse from any peek that covers it. -/
theorem revBits_peekBits {inb : List Byte} {c l code : Nat} (h : StreamHolds inb c (codewordBits l code))
    (hcode : code < 2 ^ l) {n : Nat} (hn : l ≤ n) : revBits l (peekBits inb c n) = code := by
  have hpeek := h.peekBits
  rw [codewordBits_length] at hpeek
  rw [← revBits_mod, ← Nat.add_sub_cancel' hn, peekBits_add, Nat.add_mul_mod_self_left, revBits_mod, hpeek,
    revBits_codewordBits hcode]

/-! ### The fixed tables (41 R470) -/

/-- The symbol and the length of the fixed lit/len codeword that the bits of `j` begin with (30 R320). -/
def fixedLitlenSlot (j : Nat) : Nat × Nat :=
  if revBits 7 j < 0x18 then (256 + revBits 7 j, 7)
  else if revBits 8 j < 0xC0 then (revBits 8 j - 0x30, 8)
  else if revBits 8 j < 0xC8 then (280 + (revBits 8 j - 0xC0), 8)
  else (144 + (revBits 9 j - 0x190), 9)

/-- A fixed lit/len codeword fits the root index and its own length. -/
theorem fixedLitlen_bounds {s : Nat} (hs : s < 288) :
    fixedLitlenLens.getD s 0 ≤ 9 ∧ canonCode fixedLitlenLens s < 2 ^ fixedLitlenLens.getD s 0 := by
  have hw := fixedLitlen_codeword hs
  split_ifs at hw
  all_goals
    obtain ⟨hlen, hcode⟩ := Prod.mk.inj hw
    rw [hlen, hcode]
    omega

/-- The slots that begin with a symbol's codeword are that symbol's. -/
theorem fixedLitlenSlot_of_codeword {s j : Nat} (hs : s < 288)
    (h : revBits (fixedLitlenLens.getD s 0) j = canonCode fixedLitlenLens s) :
    fixedLitlenSlot j = (s, fixedLitlenLens.getD s 0) := by
  have h8 : revBits 8 j / 2 = revBits 7 j := by rw [revBits]; omega
  have h9 : revBits 9 j / 2 = revBits 8 j := by rw [revBits]; omega
  have hw := fixedLitlen_codeword hs
  split_ifs at hw <;>
    obtain ⟨hlen, hcode⟩ := Prod.mk.inj hw <;> rw [hlen, hcode] at h <;> rw [fixedLitlenSlot, hlen]
  · rw [if_neg (by omega), if_pos (by omega), h, Nat.add_sub_cancel_left]
  · rw [if_neg (by omega), if_neg (by omega), if_neg (by omega), h, Nat.add_sub_cancel_left]
    exact Prod.ext (Nat.add_sub_cancel' (by omega)) rfl
  · rw [if_pos (by omega), h]
    exact Prod.ext (Nat.add_sub_cancel' (by omega)) rfl
  · rw [if_neg (by omega), if_neg (by omega), if_pos (by omega), h, Nat.add_sub_cancel_left]
    exact Prod.ext (Nat.add_sub_cancel' (by omega)) rfl

/-- The lit/len table of the fixed code, slot by slot (41 R470). -/
theorem fixedLitlenTable_eq :
    buildLitlenTable fixedLitlenLens = .ok ((List.range 512).map fun j =>
      litlenEntry (fixedLitlenSlot j).1 (fixedLitlenSlot j).2) := by
  decide +kernel

/-- The offset table of the fixed code, slot by slot (41 R470). -/
theorem fixedOffsetTable_eq :
    buildOffsetTable fixedOffsetLens = .ok ((List.range 256).map fun j => offsetEntry (revBits 5 j) 5) := by
  decide +kernel

/-- The entry that the loaded lit/len table holds where a peek begins with a symbol's codeword. -/
theorem State.FixedLoaded.litlenTable_getD {s : State} (h : s.FixedLoaded) {sym j : Nat} (hsym : sym < 288)
    (hj : j < 512) (hcode : revBits (fixedLitlenLens.getD sym 0) j = canonCode fixedLitlenLens sym) :
    s.litlenTable.getD j default = litlenEntry sym (fixedLitlenLens.getD sym 0) := by
  obtain ⟨-, htable, -⟩ := h
  rw [fixedLitlenTable_eq, Except.ok.injEq] at htable
  refine getD_of_take_eq (t := (List.range 512).map fun j => _) (by simpa using htable.symm) ?_
  rw [List.getElem?_map, List.getElem?_range hj, Option.map_some, fixedLitlenSlot_of_codeword hsym hcode]

/-- The same for the offset table, whose symbols are their own codewords. -/
theorem State.FixedLoaded.offsetTable_getD {s : State} (h : s.FixedLoaded) {j : Nat} (hj : j < 256) :
    s.offsetTable.getD j default = offsetEntry (revBits 5 j) 5 := by
  obtain ⟨htable, -, -⟩ := h
  rw [fixedOffsetTable_eq, Except.ok.injEq] at htable
  refine getD_of_take_eq (t := (List.range 256).map fun j => _) (by simpa using htable.symm) ?_
  rw [List.getElem?_map, List.getElem?_range hj, Option.map_some]

/-! ### A step over an encoded element (30 R323, 43 R604) -/

theorem State.refillForOffset_inBuf (s : State) : s.refillForOffset.inBuf = s.inBuf := by
  unfold State.refillForOffset
  split <;> rfl

theorem State.refillForOffset_c (s : State) : s.refillForOffset.c = s.c := by
  unfold State.refillForOffset
  split <;> rfl

theorem State.refillForOffset_peek (s : State) (n : Nat) : s.refillForOffset.peek n = s.peek n := by
  rw [State.peek, State.peek, s.refillForOffset_inBuf, s.refillForOffset_c]

theorem State.lookup_of_direct {s : State} {table : List Entry} {T : Nat} {e : Entry}
    (he : table.getD (s.peek T) default = e) (hdirect : e.isPointer = false) (k : Entry → State → Fetched) :
    s.lookup table T k = k e s := by
  rw [State.lookup, he, hdirect]
  rfl

theorem step_of_fetch {s u : State} {i : Instr} (hp : s.port = none) (hb : s.busy = true) (hf : fetch s = .instr i u) :
    step s = exec i u := by
  simp [step, hp, hb, hf]

/-- The codeword and the extra bits of an encoded element. -/
theorem streamHolds_encode {k : Codes} {inb : List Byte} {c : Nat} {i : Instr} {f : Format} {sym cw xw x : Nat}
    (hi : i.layout = .coded f sym cw xw x) (h : StreamHolds inb c (encode k i)) :
    StreamHolds inb c (symbolBits (k.lens f) sym) ∧
      StreamHolds inb (c + (k.lens f).getD sym 0) (fieldBits xw x) := by
  rw [encode, hi] at h
  have hparts := streamHolds_append.mp h
  rwa [symbolBits_length] at hparts

theorem litlen_symbol_lt {i : Instr} {sym cw xw x : Nat} (h : i.layout = .coded .litlen sym cw xw x) : sym < 288 := by
  obtain ⟨b, -, rfl⟩ | ⟨-, rfl⟩ | ⟨-, hmax, -⟩ := litlen_layout_cases h
  · exact Nat.lt_trans b.isLt (by decide)
  · decide
  · exact hmax

/-- With the fixed tables loaded, the lit/len element that is encoded at the cursor is fetched. -/
theorem State.FixedLoaded.fetch_litlen {s : State} {i : Instr} {sym cw xw x : Nat} (h : s.FixedLoaded)
    (hp : s.phase = .body) (hi : i.layout = .coded .litlen sym cw xw x) (hcw : cw = fixedLitlenLens.getD sym 0)
    (hs : StreamHolds s.inBuf s.c (encode fixedCodes i)) : fetch s = .instr i s.refill := by
  subst hcw
  have hsym := litlen_symbol_lt hi
  obtain ⟨hle, hlt⟩ := fixedLitlen_bounds hsym
  obtain ⟨hword, hextra⟩ := streamHolds_encode hi hs
  have hentry := h.litlenTable_getD hsym (peekBits_lt s.inBuf s.c 9) (revBits_peekBits hword hlt hle)
  obtain ⟨-, -, hbits⟩ := h
  rw [fetch_of_body hp, hbits, State.lookup_of_direct (s := s.refill) (T := BitVec.toNat 9) hentry
    (litlenEntry_not_isPointer hsym (by omega))]
  exact Fetched.ofDecoded_of_ok _ (decodeLitlen_of_layout hi (by omega) hextra)

/-- With the fixed tables loaded, the offset element that is encoded at the cursor is fetched. -/
theorem State.FixedLoaded.fetch_offset {s : State} {i : Instr} {sym cw xw x : Nat} (h : s.FixedLoaded)
    (hp : s.phase = .offset) (hi : i.layout = .coded .offset sym cw xw x) (hcw : cw = fixedOffsetLens.getD sym 0)
    (hs : StreamHolds s.inBuf s.c (encode fixedCodes i)) : fetch s = .instr i s.refillForOffset := by
  obtain ⟨hsym, -⟩ := offset_layout_cases hi
  obtain ⟨hlen, hcode⟩ : (fixedCodes.lens .offset).getD sym 0 = 5 ∧ canonCode (fixedCodes.lens .offset) sym = sym :=
    Prod.mk.inj (fixedOffset_codeword hsym)
  obtain ⟨hword, hextra⟩ := streamHolds_encode hi hs
  obtain rfl : cw = 5 := hcw.trans hlen
  rw [hlen] at hextra
  rw [symbolBits, hlen, hcode] at hword
  have hrev := revBits_peekBits hword hsym (show 5 ≤ 8 by decide)
  have hentry := h.offsetTable_getD (peekBits_lt s.inBuf s.c 8)
  rw [hrev, ← State.peek, ← s.refillForOffset_peek] at hentry
  rw [fetch_of_offset hp, State.lookup_of_direct hentry (offsetEntry_not_isPointer (by decide)),
    s.refillForOffset_inBuf, s.refillForOffset_c]
  exact Fetched.ofDecoded_of_ok _ (decodeOffset_of_layout hi (by decide) hextra)

/-- Settles O21: a fixed codeword is no longer than its table's root width, so the entry is direct, and the extra bits
stand behind it. -/
theorem fixedCodeRoundTrip : Obligations.FixedCodeRoundTrip := by
  intro s i f sym cw xw x hp hb hfixed hi hf hphase hcw hs
  obtain rfl | rfl | rfl := layout_format hi
  · exact absurd rfl hf
  · exact step_of_fetch hp hb (hfixed.fetch_litlen hphase hi hcw hs)
  · exact step_of_fetch hp hb (hfixed.fetch_offset hphase hi hcw hs)

end Sys2Proof.Machine

/-! PROOFS. The bit reader on the abstract cursor: peeking, consuming, aligning (40 R400 to R405). -/

namespace Sys2Proof
open Sys2Proof.Machine

/-! ### Peeking, bit by bit (40 R402) -/

/-- Bit `i` of the value of a list is its element `i`. -/
theorem bitsValue_testBit (bits : List Bool) (i : Nat) : (bitsValue bits).testBit i = bits.getD i false := by
  induction bits generalizing i with
  | nil => exact Nat.zero_testBit i
  | cons b bits ih =>
    have hb : (bitsValue (b :: bits)) = 2 ^ 1 * bitsValue bits + b.toNat := Nat.add_comm _ _
    rw [hb, Nat.testBit_two_pow_mul_add _ b.toNat_lt]
    cases i with
    | zero => cases b <;> rfl
    | succ i => exact ih i

theorem getD_map_range (f : Nat → Bool) (n i : Nat) :
    ((List.range n).map f).getD i false = (decide (i < n) && f i) := by
  by_cases h : i < n <;> simp [List.getD_eq_getElem?_getD, h]

/-- Bit `i` of a peek is the stream's bit, below the number of bits peeked. -/
theorem peekBits_testBit (inb : List Byte) (c n i : Nat) :
    (peekBits inb c n).testBit i = (decide (i < n) && streamBit inb (c + i)) := by
  have hbits : StreamHolds inb c ((List.range n).map fun i => streamBit inb (c + i)) := fun j hj => by
    rw [List.length_map, List.length_range] at hj
    rw [getD_map_range, decide_eq_true hj, Bool.true_and]
  have hpeek := hbits.peekBits
  rw [List.length_map, List.length_range] at hpeek
  rw [hpeek, bitsValue_testBit, getD_map_range]

theorem peekBits_eq_sum (inb : List Byte) (c n : Nat) :
    peekBits inb c n = ∑ i ∈ Finset.range n, (streamBit inb (c + i)).toNat * 2 ^ i := by
  induction n with
  | zero => rfl
  | succ n ih => rw [peekBits, ih, Finset.sum_range_succ]

/-- 40 R400: the bits inside IN. -/
theorem streamBit_of_lt {inb : List Byte} {j : Nat} (h : j < 8 * inb.length) :
    streamBit inb j = (inRead inb (j / 8)).getLsbD (j % 8) := if_pos h

/-- 40 R400: the synthetic zeros behind IN. -/
theorem streamBit_of_ge {inb : List Byte} {j : Nat} (h : 8 * inb.length ≤ j) : streamBit inb j = false :=
  if_neg (Nat.not_lt.mpr h)

/-- Settles O5: a peek adds one stream bit after another at its weight (`peekBits_eq_sum`). -/
theorem peekIsTheSumOfTheStreamBits : Obligations.PeekIsTheSumOfTheStreamBits := by
  refine ⟨fun s n => ⟨peekBits_eq_sum _ _ _, peekBits_lt _ _ _⟩, fun inb j => ⟨fun h => ?_, streamBit_of_ge⟩, by decide⟩
  rw [streamBit_of_lt h, ← BitVec.testBit_toNat, Nat.toNat_testBit, Nat.and_one_is_mod, Nat.shiftRight_eq_div_pow]

end Sys2Proof

namespace Sys2Proof.Machine
open Sys2Proof

/-! ### Consuming and aligning (40 R403, R405) -/

/-- Settles O6: the two cases of a consume (`State.consume_of_lt`, `State.consume_of_le`), and what a raise keeps. -/
theorem consumeMovesTheCursorOrRaises : Obligations.ConsumeMovesTheCursorOrRaises := by
  refine fun s n k => ⟨fun h => ?_, fun h => State.consume_of_le h k, fun h => State.consume_of_le h k⟩
  exact ⟨_, State.consume_of_lt h k, s.raise_ended .overread, rfl, rfl, rfl, s.raise_sameObject .overread⟩

/-- An alignment stays inside IN, which ends at a byte. -/
theorem State.CursorOk.alignToByte {s : State} (h : s.CursorOk) : s.alignToByte.CursorOk := by
  have hc : s.c ≤ 8 * s.inN := h
  rw [State.CursorOk, State.alignToByte_c, State.inN_alignToByte]
  omega

/-- Settles O7: the cursor is rounded up to the next multiple of 8. -/
theorem alignmentSkipsToTheNextByte : Obligations.AlignmentSkipsToTheNextByte := by
  intro s
  rw [State.alignToByte_c]
  exact ⟨rfl, by omega, by omega, by omega, fun h => by omega, State.CursorOk.alignToByte⟩

end Sys2Proof.Machine

/-! PROOFS. The datapath registers stand for the cursor: what each operation of 40 section 2 keeps of 40 R428. -/

namespace Sys2Proof.Machine
open Sys2Proof

/-! ### Peeking and consuming on the registers (40 R424, R425) -/

/-- The registers peek what the cursor peeks, as far as they are loaded. -/
theorem Datapath.Linked.peek {d : Datapath} {inb : List Byte} {c n : Nat} (h : d.Linked inb c)
    (hn : n ≤ d.bitsleft.toNat) : d.peek n = peekBits inb c n := by
  refine Nat.eq_of_testBit_eq fun i => ?_
  rw [Datapath.peek_testBit, peekBits_testBit]
  by_cases hi : i < n
  · rw [h.loaded i (Nat.lt_of_lt_of_le hi hn)]
  · rw [decide_eq_false hi, Bool.false_and, Bool.false_and]

theorem Datapath.consume_bitsleft_toNat {d : Datapath} {n : Nat} (hn : n ≤ d.bitsleft.toNat) :
    (d.consume n).bitsleft.toNat = d.bitsleft.toNat - n := by
  have := d.bitsleft.isLt
  rw [Datapath.consume, BitVec.toNat_sub, BitVec.toNat_ofNat]
  omega

/-- 40 R425: a consume of loaded bits moves the registers with the cursor. -/
theorem Datapath.Linked.consume {d : Datapath} {inb : List Byte} {c n : Nat} (h : d.Linked inb c)
    (hn : n ≤ d.bitsleft.toNat) : (d.consume n).Linked inb (c + n) := by
  obtain ⟨cursor, usable, loaded, above, overread, inside⟩ := h
  have hbits := Datapath.consume_bitsleft_toNat hn
  have hbuf (i : Nat) : (d.consume n).bitbuf.getLsbD i = d.bitbuf.getLsbD (n + i) := BitVec.getLsbD_ushiftRight ..
  refine ⟨?_, ?_, fun i hi => ?_, fun i hi hset => ?_, overread, inside⟩
  · show c + n + _ = 8 * d.inNext.toNat + 8 * d.overreadCount.toNat
    omega
  · rw [hbits]
    omega
  · rw [hbuf, Nat.add_assoc]
    exact loaded _ (by omega)
  · rw [hbuf] at hset
    rw [Nat.add_assoc]
    exact above _ (by omega) hset

/-! ### Refilling (40 R421 to R423) -/

/-- 40 R421, R422: the registers after a load of `m` bits of the stream above those that are loaded; whatever already
stood there was right (40 R428). -/
theorem Datapath.Linked.load {d d' : Datapath} {inb : List Byte} {c m : Nat} {word : BitVec 64} (h : d.Linked inb c)
    (buf : d'.bitbuf = d.bitbuf ||| word <<< d.bitsleft.toNat)
    (hword : ∀ j, word.getLsbD j = (decide (j < m) && streamBit inb (c + d.bitsleft.toNat + j)))
    (cursor : c + d'.bitsleft.toNat = 8 * d'.inNext.toNat + 8 * d'.overreadCount.toNat)
    (usable : d'.bitsleft.toNat ≤ 63) (loads : d'.bitsleft.toNat ≤ d.bitsleft.toNat + m)
    (overread : 0 < d'.overreadCount.toNat → d'.inNext.toNat = inb.length) (inside : d'.inNext.toNat ≤ inb.length) :
    d'.Linked inb c := by
  have hlow (i : Nat) (hi : i < d.bitsleft.toNat) : d'.bitbuf.getLsbD i = streamBit inb (c + i) := by
    rw [buf, BitVec.getLsbD_or, BitVec.getLsbD_shiftLeft, decide_eq_true hi, h.loaded i hi]
    simp
  have hhigh (j : Nat) : d'.bitbuf.getLsbD (d.bitsleft.toNat + j) =
      (d.bitbuf.getLsbD (d.bitsleft.toNat + j) || (decide (d.bitsleft.toNat + j < 64) && (decide (j < m) &&
        streamBit inb (c + (d.bitsleft.toNat + j))))) := by
    rw [buf, BitVec.getLsbD_or, BitVec.getLsbD_shiftLeft, Nat.add_sub_cancel_left, hword,
      decide_eq_false (Nat.not_lt.mpr (Nat.le_add_right _ _)), Nat.add_assoc]
    simp
  have habove (j : Nat) := h.above (d.bitsleft.toNat + j) (Nat.le_add_right _ _)
  refine ⟨cursor, usable, fun i hi => ?_, fun i hi hset => ?_, overread, inside⟩
  · rcases Nat.lt_or_ge i d.bitsleft.toNat with hlt | hge
    · exact hlow i hlt
    · obtain ⟨j, rfl⟩ := Nat.exists_eq_add_of_le hge
      rw [hhigh, decide_eq_true (by omega), decide_eq_true (by omega), Bool.true_and, Bool.true_and]
      exact Bool.or_eq_right_iff_imp.mpr (habove j)
  · rcases Nat.lt_or_ge i d.bitsleft.toNat with hlt | hge
    · rw [← hlow i hlt, hset]
    · obtain ⟨j, rfl⟩ := Nat.exists_eq_add_of_le hge
      rw [hhigh, Bool.or_eq_true] at hset
      obtain hset | hset := hset
      · exact habove j hset
      · simp only [Bool.and_eq_true] at hset
        exact hset.2.2

/-- Bit `j` of the byte at index `a` of IN. -/
theorem inRead_getLsbD {inb : List Byte} {a j : Nat} (ha : a < inb.length) :
    (inRead inb a).getLsbD j = (decide (j < 8) && streamBit inb (8 * a + j)) := by
  by_cases hj : j < 8
  · rw [streamBit_of_lt (by omega), Nat.mul_add_div (by decide), Nat.mul_add_mod, Nat.mod_eq_of_lt hj,
      Nat.div_eq_of_lt hj, Nat.add_zero, decide_eq_true hj, Bool.true_and]
  · rw [BitVec.getLsbD_of_ge _ _ (Nat.le_of_not_lt hj), decide_eq_false hj, Bool.false_and]

/-- 40 R421: the word at index `a` of IN holds the stream's bits from `8·a` on. -/
theorem inWord_getLsbD {inb : List Byte} {a : Nat} (ha : a + 8 ≤ inb.length) (j : Nat) :
    (inWord inb a).getLsbD j = (decide (j < 64) && streamBit inb (8 * a + j)) := by
  rw [inWord, BitVec.getLsbD_ofNat, bitsValue_testBit, getD_map_range]
  by_cases hj : j < 64
  · rw [decide_eq_true hj, streamBit_of_lt (by omega), Nat.mul_add_div (by decide), Nat.mul_add_mod]
    rfl
  · rw [decide_eq_false hj]
    rfl

/-- 40 R421: `bitsleft | 56` is the greatest count up to 63 that differs from `bitsleft` by whole bytes. -/
theorem or_56_toNat {b : BitVec 8} (h : b.toNat ≤ 63) : (b ||| 56).toNat = 56 + b.toNat % 8 := by
  obtain ⟨n, rfl⟩ : ∃ n : Fin 64, b = BitVec.ofNat 8 n := ⟨⟨b.toNat, by omega⟩, by simp⟩
  revert n
  decide

/-- 40 R421: no synthetic byte has been counted while bytes of IN remain. -/
theorem Datapath.Linked.overreadCount_of_lt {d : Datapath} {inb : List Byte} {c : Nat} (h : d.Linked inb c)
    (hlt : d.inNext.toNat < inb.length) : d.overreadCount.toNat = 0 := by
  by_contra hne
  have := h.overread (Nat.pos_of_ne_zero hne)
  omega

theorem Datapath.Linked.cursor_of_lt {d : Datapath} {inb : List Byte} {c : Nat} (h : d.Linked inb c)
    (hlt : d.inNext.toNat < inb.length) : c + d.bitsleft.toNat = 8 * d.inNext.toNat := by
  have hcursor := h.cursor
  rwa [h.overreadCount_of_lt hlt, Nat.mul_zero, Nat.add_zero] at hcursor

/-- 40 R421: the fast refill, with eight bytes of IN before it. -/
theorem Datapath.Linked.fastRefill {d : Datapath} {inb : List Byte} {c : Nat} (h : d.Linked inb c)
    (hsize : inb.length < 2 ^ 64) (hin : d.inNext.toNat + 8 ≤ inb.length) :
    (d.fastRefill inb).Linked inb c ∧ 56 ≤ (d.fastRefill inb).bitsleft.toNat := by
  have hover : (d.fastRefill inb).overreadCount.toNat = 0 := h.overreadCount_of_lt (by omega)
  have hcursor := h.cursor_of_lt (by omega)
  have husable := h.usable
  have hbits : (d.fastRefill inb).bitsleft.toNat = 56 + d.bitsleft.toNat % 8 := or_56_toNat husable
  have hnext : (d.fastRefill inb).inNext.toNat = d.inNext.toNat + (7 - d.bitsleft.toNat / 8) := by
    rw [Datapath.fastRefill, BitVec.toNat_add, BitVec.toNat_ofNat]
    omega
  refine ⟨h.load (m := 64) (word := inWord inb d.inNext.toNat) ?_ (fun j => ?_) ?_ ?_ ?_ ?_ ?_, by omega⟩
  · rw [Datapath.fastRefill, Nat.mod_eq_of_lt (Nat.lt_succ_of_le husable)]
  · rw [inWord_getLsbD hin, hcursor]
  all_goals omega

/-- 40 R422: a pass of the slow refill loads 8 bits, of IN or synthetic. -/
theorem Datapath.Linked.slowByte {d : Datapath} {inb : List Byte} {c : Nat} (h : d.Linked inb c)
    (hc : c ≤ 8 * inb.length) (hsize : inb.length < 2 ^ 64) (hlow : d.bitsleft.toNat < 56) :
    (d.slowByte inb).Linked inb c ∧ (d.slowByte inb).bitsleft.toNat = d.bitsleft.toNat + 8 := by
  have hbits : (d.bitsleft + 8).toNat = d.bitsleft.toNat + 8 := by bv_omega
  unfold Datapath.slowByte
  split
  · next hlt =>
    have hover := h.overreadCount_of_lt hlt
    have hcursor := h.cursor_of_lt hlt
    have hnext : (d.inNext + 1).toNat = d.inNext.toNat + 1 := by bv_omega
    refine ⟨h.load (m := 8) rfl (fun j => ?_) ?_ ?_ ?_ ?_ ?_, hbits⟩
    · rw [hcursor, ← inRead_getLsbD hlt]
      refine (BitVec.getLsbD_setWidth ..).trans (Bool.and_eq_right_iff_imp.mpr fun hset => ?_)
      exact decide_eq_true (Nat.lt_trans (BitVec.lt_of_getLsbD hset) (by decide))
    all_goals (dsimp only; omega)
  · next hge =>
    have hcursor := h.cursor
    have hinside := h.inside
    have hover : (d.overreadCount + 1).toNat = d.overreadCount.toNat + 1 := by bv_omega
    refine ⟨h.load (m := 8) (word := 0) ?_ (fun j => ?_) ?_ ?_ ?_ ?_ ?_, hbits⟩
    · simp
    · rw [streamBit_of_ge (by omega), Bool.and_false]
      exact BitVec.getLsbD_zero
    all_goals (dsimp only; omega)

/-- 40 R422: the slow refill, with enough passes to reach 56 bits. -/
theorem Datapath.Linked.slowRefill {inb : List Byte} {c : Nat} (hc : c ≤ 8 * inb.length) (hsize : inb.length < 2 ^ 64)
    {fuel : Nat} {d : Datapath} (h : d.Linked inb c) (hfuel : 56 ≤ d.bitsleft.toNat + 8 * fuel) :
    (d.slowRefill inb fuel).Linked inb c ∧ 56 ≤ (d.slowRefill inb fuel).bitsleft.toNat := by
  induction fuel generalizing d with
  | zero => exact ⟨h, hfuel⟩
  | succ fuel ih =>
    rw [Datapath.slowRefill]
    split
    · next hlow =>
      obtain ⟨hbyte, hbits⟩ := h.slowByte hc hsize hlow
      exact ih hbyte (by omega)
    · next hfull => exact ⟨h, Nat.le_of_not_lt hfull⟩

/-- 40 R423: a refill keeps the link and leaves 56 bits, the fast one where eight bytes of IN remain. -/
theorem Datapath.Linked.refill {d : Datapath} {inb : List Byte} {c : Nat} (h : d.Linked inb c)
    (hc : c ≤ 8 * inb.length) (hsize : inb.length < 2 ^ 64) :
    (d.refill inb).Linked inb c ∧ 56 ≤ (d.refill inb).bitsleft.toNat := by
  unfold Datapath.refill
  split
  · next hin => exact h.fastRefill hsize (Nat.add_le_of_le_sub' h.inside hin)
  · exact h.slowRefill hc hsize (Nat.le_add_left _ _)

/-! ### Rewinding and aligning (40 R426, R427) -/

/-- 40 R427: rewound by the whole bytes that were loaded and not consumed, the index is that of the first byte the
cursor has not touched. -/
theorem Datapath.Linked.rewound_toNat {d : Datapath} {inb : List Byte} {c : Nat} (h : d.Linked inb c)
    (hc : c ≤ 8 * inb.length) : d.rewound.toNat = (c + 7) / 8 := by
  obtain ⟨cursor, usable, -, -, overread, inside⟩ := h
  have hover : 0 < d.overreadCount.toNat → d.overreadCount.toNat ≤ d.bitsleft.toNat / 8 := by omega
  have hnext := d.inNext.isLt
  have hle : d.bitsleft.toNat / 8 - d.overreadCount.toNat ≤ d.inNext.toNat := by omega
  rw [Datapath.rewound, BitVec.toNat_sub, BitVec.toNat_ofNat]
  omega

/-- Empty registers stand for a cursor at a byte of IN. -/
theorem Datapath.linked_empty {inb : List Byte} {a : Count} (ha : a.toNat ≤ inb.length) :
    Datapath.Linked ⟨0, 0, a, 0⟩ inb (8 * a.toNat) where
  cursor := rfl
  usable := Nat.zero_le _
  loaded i hi := absurd hi (Nat.not_lt_zero i)
  above _ _ hset := absurd (BitVec.getLsbD_zero.symm.trans hset) Bool.false_ne_true
  overread hpos := absurd hpos (Nat.lt_irrefl 0)
  inside := ha

/-- 40 R426: an alignment empties the registers at the next byte. -/
theorem Datapath.Linked.align {d : Datapath} {inb : List Byte} {c : Nat} (h : d.Linked inb c)
    (hc : c ≤ 8 * inb.length) : d.align.Linked inb (8 * ((c + 7) / 8)) := by
  have hnext := h.rewound_toNat hc
  rw [← hnext]
  exact Datapath.linked_empty (by omega)

/-- Settles O10: the rewound index is `ceil(C/8)` (`Datapath.Linked.rewound_toNat`), the `actual_in` of 44 R706. -/
theorem rewindGivesTheInputCount : Obligations.RewindGivesTheInputCount := by
  intro s hc hin h
  have hrewound : s.finish.dp.inNext.toNat = (s.c + 7) / 8 := h.rewound_toNat hc
  refine ⟨hrewound, fun hwant => ⟨hwant, ?_⟩⟩
  have hactual : s.finish.actualIn = BitVec.ofNat 64 ((s.c + 7) / 8) := if_pos hwant
  rw [hactual, ← hrewound, BitVec.ofNat_toNat, BitVec.setWidth_eq]

end Sys2Proof.Machine

/-! PROOFS. Behind the root of a built table stand short codewords only: what the root bits leave of them (41 R461,
R464). -/

namespace Sys2Proof.Machine
open Sys2Proof

/-- Behind the root table every entry has at most `m` codeword bits. -/
def ShortBehind (m T : Nat) (t : List Entry) : Prop := ∀ k, 2 ^ T ≤ k → (t.getD k default).cwbits.toNat ≤ m

/-- A table that is all root has nothing behind it. -/
theorem ShortBehind.of_length {m T : Nat} {t : List Entry} (h : t.length ≤ 2 ^ T) : ShortBehind m T t := fun k hk => by
  rw [List.getD_eq_default _ _ (h.trans hk)]
  exact Nat.zero_le m

/-- A new subtable is empty, and its pointer stands in the root table. -/
theorem Fill.grow_getD {T k : Nat} {f : Fill} (hk : 2 ^ T ≤ k) (bits : Nat) :
    (f.grow T bits).table.getD k default = f.table.getD k default := by
  have hne : k ≠ f.codeword % 2 ^ T := (Nat.lt_of_lt_of_le (Nat.mod_lt _ (Nat.two_pow_pos T)) hk).ne'
  rcases Nat.lt_or_ge k f.table.length with hlt | hge
  · rw [List.getD_eq_getElem?_getD, Fill.grow_getElem?_of_ne hlt hne, List.getD_eq_getElem?_getD]
  · rw [Fill.grow, List.getD_append_right _ _ _ _ (by rwa [List.length_set]), List.getD_eq_default _ _ hge,
      List.getD_eq_getElem?_getD]
    exact List.getElem?_getD_replicate_default_eq _ _ _

/-- 41 R464: what is placed in a subtable is short if the new entry is. -/
theorem ShortBehind.placed {mk : Nat → Nat → Entry} {m T s l : Nat} {g : Fill} (h : ShortBehind m T g.table) (b : Sub)
    (hmk : (mk s (l - T)).cwbits.toNat ≤ m) : ShortBehind m T (placed mk T s l b g) := by
  intro k hk
  rw [Machine.placed, List.getD_eq_getElem?_getD]
  obtain hkeep | hnew := fillStride_getElem?_cases (mk s (l - T)) (2 ^ (l - T)) (2 ^ (b.bits - (l - T)))
    (b.start + g.codeword / 2 ^ T) k g.table
  · rw [hkeep, ← List.getD_eq_getElem?_getD]
    exact h k hk
  · rw [hnew, Option.getD_some]
    exact hmk

/-- 41 R464: a subtable's entries are of the codewords without their `T` root bits. -/
theorem fillSub_shortBehind {lens : List Nat} {mk : Nat → Nat → Entry} {m T : Nat} (syms : List (Nat × Nat))
    {cur : Option Sub} {f : Fill} (hmk : ∀ p ∈ syms, (mk p.1 (p.2 - T)).cwbits.toNat ≤ m)
    (h : ShortBehind m T f.table) : ShortBehind m T (fillSub lens mk T syms cur f).table := by
  induction syms generalizing cur f with
  | nil => exact h
  | cons p rest ih =>
    obtain ⟨s, l⟩ := p
    obtain ⟨hhead, hrest⟩ := List.forall_mem_cons.mp hmk
    have hopen : ∃ b g, openSub lens T l (1 + rest.countP fun p => p.2 = l) cur f = (b, g) ∧
        ShortBehind m T g.table := by
      obtain ⟨b, -, -, ho⟩ | ⟨-, ho⟩ := openSub_eq lens T l rest cur f
      · exact ⟨b, f, ho, h⟩
      · exact ⟨_, _, ho, fun k hk => by rw [Fill.grow_getD hk]; exact h k hk⟩
    obtain ⟨b, g, ho, hg⟩ := hopen
    simp only [fillSub, ho]
    split
    · exact hg.placed b hhead
    · exact ih hrest (hg.placed b hhead)

theorem Fill.mirror_curEnd_of_pow {f : Fill} {a b : Nat} (hab : a ≤ b) (hf : f.curEnd = 2 ^ a) :
    (f.mirror (b - a)).curEnd = 2 ^ b := by
  rw [Fill.mirror_curEnd, hf, ← Nat.pow_add, Nat.add_sub_cancel' hab]

/-- 41 R458: over symbols of rising lengths, the main phase leaves a table of `2^T` entries, and symbols of its own. -/
theorem fillMain_root (mk : Nat → Nat → Entry) {T : Nat} (syms : List (Nat × Nat)) {len : Nat} {f : Fill}
    (hlen : len ≤ T) (hsize : f.curEnd = 2 ^ len) (sorted : syms.Pairwise fun p q => p.2 ≤ q.2)
    (hge : ∀ p ∈ syms, len ≤ p.2) :
    (fillMain mk T syms len f).1.curEnd = 2 ^ T ∧ ∀ p ∈ (fillMain mk T syms len f).2, p ∈ syms := by
  induction syms generalizing len f with
  | nil => exact ⟨Fill.mirror_curEnd_of_pow hlen hsize, fun _ hp => hp⟩
  | cons p rest ih =>
    obtain ⟨s, l⟩ := p
    have hsize' := Fill.mirror_curEnd_of_pow (hge _ List.mem_cons_self : len ≤ l) hsize
    obtain ⟨hle, hrest⟩ := List.pairwise_cons.mp sorted
    rw [fillMain]
    split
    · exact ⟨Fill.mirror_curEnd_of_pow hlen hsize, fun _ hp => hp⟩
    · next hnot =>
      have hlT := Nat.le_of_not_lt hnot
      dsimp only
      split
      · exact ⟨Fill.mirror_curEnd_of_pow hlT hsize', nofun⟩
      · refine (ih hlT ?_ hrest hle).imp_right fun hmem q hq => List.mem_cons_of_mem _ (hmem q hq)
        exact hsize'

theorem fillTable_shortBehind {lens : List Nat} {mk : Nat → Nat → Entry} {m T L : Nat}
    (hmk : ∀ p ∈ sortSyms lens L, (mk p.1 (p.2 - T)).cwbits.toNat ≤ m) :
    ShortBehind m T (fillTable lens mk T L).table := by
  set first := min T (((sortSyms lens L).head?.map Prod.snd).getD 1)
  set start : Fill := ⟨List.replicate (2 ^ first) default, 2 ^ first, 0⟩
  have sorted := sortSyms_sorted lens L
  obtain ⟨hsize, hmem⟩ : (fillMain mk T (sortSyms lens L) first start).1.curEnd = 2 ^ T ∧ _ :=
    fillMain_root mk _ (Nat.min_le_left T _) rfl sorted fun p hp =>
      (Nat.min_le_right _ _).trans (head_length_le sorted hp)
  have hexact : (fillMain mk T (sortSyms lens L) first start).1.Exact := fillMain_exact _ _ _ _ List.length_replicate
  exact fillSub_shortBehind _ (fun p hp => hmk p (hmem p hp)) (.of_length (hexact.trans hsize).le)

/-- 41 R464: behind the root of a built table stand the codewords of at most `L` bits without their `T` root bits. -/
theorem buildTable_shortBehind {lens : List Nat} {mk : Nat → Nat → Entry} {m T L enough : Nat} {t : List Entry}
    (h : buildTable lens mk T L enough = .ok t)
    (hmk : ∀ p ∈ sortSyms lens L, (mk p.1 (p.2 - T)).cwbits.toNat ≤ m) : ShortBehind m T t := by
  simp only [buildTable] at h
  split at h
  · cases h
  split at h
  · split at h
    · cases h; exact .of_length List.length_replicate.le
    split at h <;> cases h
    exact .of_length List.length_replicate.le
  · split at h <;> cases h
    exact fillTable_shortBehind hmk

theorem buildOffsetTable_shortBehind {lens t : List _} (h : buildOffsetTable lens = .ok t) (hlen : lens.length ≤ 32) :
    ShortBehind 7 8 t :=
  buildTable_shortBehind h fun p hp => by
    obtain ⟨hsym, -, hl⟩ := mem_sortSyms hp
    have hl : p.2 - 8 ≤ 7 := by
      have : p.2 ≤ 15 := hl
      omega
    show (offsetEntry p.1 (p.2 - 8)).cwbits.toNat ≤ 7
    rw [offsetEntry_cwbits (by omega) (hl.trans (by decide)), BitVec.toNat_ofNat]
    omega

end Sys2Proof.Machine

/-! PROOFS. Every step keeps the datapath registers linked to the cursor: a refill loads what an element takes (40 R409,
R423, R428). -/

namespace Sys2Proof.Machine
open Sys2Proof

/-! ### Loaded states -/

/-- The registers stand for a cursor inside IN, and `n` bits are loaded. -/
structure State.Loaded (n : Nat) (s : State) : Prop where
  cursor : s.CursorOk
  input  : s.inBuf.length < 2 ^ 64
  linked : s.dp.Linked s.inBuf s.c
  bits   : n ≤ s.dp.bitsleft.toNat

theorem State.datapathOk_of_idle {s : State} (h : s.busy = false) : s.DatapathOk := fun hb =>
  absurd (h.symm.trans hb) Bool.false_ne_true

/-- What moves neither the cursor nor the registers keeps them loaded. -/
theorem State.Loaded.congr {s t : State} {n : Nat} (h : s.Loaded n) (c : t.c = s.c := by rfl)
    (inBuf : t.inBuf = s.inBuf := by rfl) (dp : t.dp = s.dp := by rfl) : t.Loaded n where
  cursor := by rw [State.CursorOk, State.inN, c, inBuf]; exact h.cursor
  input := by rw [inBuf]; exact h.input
  linked := by rw [dp, inBuf, c]; exact h.linked
  bits := by rw [dp]; exact h.bits

/-- Loaded registers are linked, also in a state with the same cursor and the same registers. -/
theorem State.Loaded.datapathOk {s t : State} {n : Nat} (h : s.Loaded n) (c : t.c = s.c := by rfl)
    (inBuf : t.inBuf = s.inBuf := by rfl) (dp : t.dp = s.dp := by rfl) : t.DatapathOk := fun _ =>
  (h.congr c inBuf dp).linked

theorem State.Loaded.mono {s : State} {m n : Nat} (h : s.Loaded n) (hmn : m ≤ n) : s.Loaded m :=
  ⟨h.cursor, h.input, h.linked, hmn.trans h.bits⟩

theorem State.Loaded.advance {s : State} {m n : Nat} (h : s.Loaded (m + n)) (hin : s.c + m ≤ 8 * s.inN) :
    (s.advance m).Loaded n where
  cursor := hin
  input := h.input
  linked := h.linked.consume ((Nat.le_add_right m n).trans h.bits)
  bits := by
    have hbits := h.bits
    rw [State.advance_dp, Datapath.consume_bitsleft_toNat (by omega)]
    omega

/-- A consume of `m` loaded bits, with `n` more behind them for what follows. -/
theorem State.Loaded.consume {s : State} {m : Nat} {k : State → Out} (n : Nat) (h : s.Loaded (m + n))
    (hk : (s.advance m).Loaded n → Yields State.DatapathOk (k (s.advance m))) :
    Yields State.DatapathOk (s.consume m k) :=
  State.consume_yields (State.datapathOk_of_idle rfl) fun hin => hk (h.advance hin)

/-- 40 R423: what a refill loads. -/
theorem State.Loaded.refill {s : State} {n : Nat} (h : s.Loaded n) : s.refill.Loaded 56 := by
  obtain ⟨hlinked, hbits⟩ := h.linked.refill h.cursor h.input
  exact ⟨h.cursor, h.input, hlinked, hbits⟩

/-- 40 R423: what is loaded before an offset lookup. -/
theorem State.Loaded.refillForOffset {s : State} {n : Nat} (h : s.Loaded n) : s.refillForOffset.Loaded 28 := by
  unfold State.refillForOffset
  split
  · exact h.refill.mono (by decide)
  · next hge => exact ⟨h.cursor, h.input, h.linked, Nat.le_of_not_lt hge⟩

/-- 40 R420: an accepted command starts with empty registers. -/
theorem State.accept_datapathOk (s : State) (wantIn wantOut : Bool) (inBytes : List Byte) (outN : Count) :
    (s.accept wantIn wantOut inBytes outN).DatapathOk := fun _ => Datapath.linked_empty (Nat.zero_le _)

theorem State.Inv.loaded {s : State} (h : s.Inv) (hb : s.busy = true) (hd : s.DatapathOk) : s.Loaded 0 :=
  ⟨h.cursor, h.input.1, hd hb, Nat.zero_le _⟩

theorem State.Loaded.endBlock {s : State} {n : Nat} (h : s.Loaded n) : s.endBlock.DatapathOk := by
  cases hf : s.final
  · rw [State.endBlock_of_not_final hf]
    exact h.datapathOk
  · rw [State.endBlock_of_final hf]
    exact State.datapathOk_of_idle rfl

/-! ### At a byte (40 R405, R406, 42 R505, R514) -/

/-- After an alignment the registers are empty, and the cursor stands at their byte. -/
structure State.AtByte (s : State) : Prop where
  empty  : s.dp = ⟨0, 0, s.dp.inNext, 0⟩
  cursor : s.c = 8 * s.dp.inNext.toNat
  inside : s.dp.inNext.toNat ≤ s.inN
  input  : s.inBuf.length < 2 ^ 64

theorem State.AtByte.loaded {s : State} (h : s.AtByte) : s.Loaded 0 where
  cursor := by
    have := h.inside
    rw [State.CursorOk, h.cursor]
    omega
  input := h.input
  linked := by
    rw [h.cursor, h.empty]
    exact Datapath.linked_empty h.inside
  bits := Nat.zero_le _

theorem State.Loaded.alignToByte {s : State} {n : Nat} (h : s.Loaded n) : s.alignToByte.AtByte := by
  have hnext : s.alignToByte.dp.inNext.toNat = (s.c + 7) / 8 := h.linked.rewound_toNat h.cursor
  have hc : s.c ≤ 8 * s.inN := h.cursor
  refine ⟨rfl, by rw [hnext, State.alignToByte_c], ?_, h.input⟩
  rw [hnext, State.inN_alignToByte]
  omega

theorem State.AtByte.nextByte {s : State} (h : s.AtByte) (hin : s.c + 8 ≤ 8 * s.inN) : s.nextByte.AtByte := by
  obtain ⟨empty, cursor, inside, input⟩ := h
  have input' : s.inN < 2 ^ 64 := input
  have hnext : s.nextByte.dp.inNext.toNat = s.dp.inNext.toNat + 1 := by
    show (s.dp.inNext + 1).toNat = _
    bv_omega
  refine ⟨?_, ?_, ?_, input⟩
  · show s.dp.nextByte = ⟨0, 0, s.dp.inNext + 1, 0⟩
    rw [empty]
    rfl
  · rw [hnext, State.nextByte_c]
    omega
  · rw [hnext, State.inN_nextByte]
    omega

theorem State.AtByte.copyStored {n : Nat} {s : State} (h : s.AtByte) (hin : n ≤ s.inN - s.c / 8) :
    (State.copyStored n s).AtByte := by
  induction n generalizing s with
  | zero => exact h
  | succ n ih =>
    have hemit : (s.emit s.thisByte).AtByte := ⟨h.empty, h.cursor, h.inside, h.input⟩
    have hc := h.cursor
    refine ih (hemit.nextByte ?_) ?_
    · rw [State.emit_c, State.inN_emit]
      omega
    · rw [State.nextByte_c, State.inN_nextByte, State.emit_c, State.inN_emit]
      omega

theorem State.AtByte.storedData {s : State} (h : s.AtByte) (len nlen : BitVec 16) :
    Yields State.DatapathOk (s.storedData len nlen) := by
  obtain ⟨-, he⟩ | ⟨-, -, he⟩ | ⟨-, -, -, he⟩ | ⟨-, hin, -, he⟩ := s.storedData_cases len nlen <;> rw [he, yields_next]
  · exact State.datapathOk_of_idle rfl
  · exact State.datapathOk_of_idle rfl
  · exact State.datapathOk_of_idle rfl
  · exact (h.copyStored hin).loaded.endBlock

theorem State.Loaded.storedBlock {s : State} {n : Nat} (h : s.Loaded n) : Yields State.DatapathOk s.storedBlock := by
  have hu := h.alignToByte
  unfold State.storedBlock
  generalize s.alignToByte = u at hu ⊢
  dsimp only
  split
  · exact yields_next.mpr (State.datapathOk_of_idle rfl)
  · next hlen =>
    have h1 := hu.nextByte (by omega)
    have h2 := h1.nextByte (by simp only [nextByte_c, inN_nextByte]; omega)
    have h3 := h2.nextByte (by simp only [nextByte_c, inN_nextByte]; omega)
    have h4 := h3.nextByte (by simp only [nextByte_c, inN_nextByte]; omega)
    exact h4.storedData _ _

/-! ### The other operations -/

/-- The builds write tables only. -/
theorem State.Loaded.buildPrecode {s : State} {n : Nat} {k : State → Out} (h : s.Loaded n)
    (hk : ∀ u, u.Loaded n → Yields State.DatapathOk (k u)) : Yields State.DatapathOk (s.buildPrecode k) :=
  State.buildPrecode_yields (fun _ _ => hk _ h.congr)
    fun _ => State.failPrecode_yields fun _ _ _ _ => State.datapathOk_of_idle rfl

theorem State.Loaded.buildCodes {s : State} {n : Nat} {k : State → Out} (h : s.Loaded n)
    (hk : ∀ u, u.Loaded n → Yields State.DatapathOk (k u)) : Yields State.DatapathOk (s.buildCodes k) :=
  State.buildOffset_yields
    (fun t _ =>
      have ho : (s.withOffset t).Loaded n := h.congr
      State.buildLitlen_yields (fun _ _ => hk _ ho.congr)
        fun _ => State.failLitlen_yields fun _ _ _ _ _ _ => State.datapathOk_of_idle rfl)
    fun _ => State.failOffset_yields fun _ _ _ _ => State.datapathOk_of_idle rfl

theorem State.Loaded.blockHeader {s : State} {final : Bool} {k : State → Out} (h : s.Loaded 3)
    (hk : ∀ u, u.Loaded 0 → Yields State.DatapathOk (k u)) : Yields State.DatapathOk (s.blockHeader final k) :=
  State.Loaded.consume 2 h fun h1 => State.Loaded.consume 0 h1.congr (hk _)

theorem State.Loaded.fixedBlock {s : State} {n : Nat} (h : s.Loaded n) : Yields State.DatapathOk s.fixedBlock := by
  unfold State.fixedBlock
  split
  · exact yields_next.mpr h.datapathOk
  · exact State.Loaded.buildCodes (n := n) h.congr fun u hu => yields_next.mpr hu.datapathOk

/-- The count header has a refill of its own (40 R423). -/
theorem State.Loaded.dynamicBlock {s : State} {n : Nat} (h : s.Loaded n) (hlit hdist : BitVec 5) (hclen : BitVec 4) :
    Yields State.DatapathOk (s.dynamicBlock hlit hdist hclen) :=
  State.Loaded.consume 51 h.refill fun h1 =>
    State.Loaded.consume 46 h1.congr fun h2 =>
      State.Loaded.consume 42 h2.congr fun h3 =>
        yields_next.mpr h3.datapathOk

theorem State.Loaded.afterPrecodeLen {s : State} {n : Nat} (h : s.Loaded n) :
    Yields State.DatapathOk s.afterPrecodeLen := by
  obtain ⟨-, he⟩ | ⟨-, he⟩ := s.afterPrecodeLen_cases <;> rw [he]
  · exact yields_next.mpr h.datapathOk
  · rw [State.clearPrecodeLens_frame]
    exact State.Loaded.buildPrecode (n := n) h.congr fun u hu => yields_next.mpr hu.datapathOk

theorem State.Loaded.writeRun {s : State} {n : Nat} (h : s.Loaded n) (r : Nat) (v : BitVec 4) :
    Yields State.DatapathOk (s.writeRun r v) := by
  unfold State.writeRun
  set u : State := { s with lens := setRun v r s.index s.lens, index := s.index + r }
  have hu : u.Loaded n := h.congr
  obtain ⟨-, he⟩ | ⟨-, he⟩ | ⟨-, he⟩ := u.afterLens_cases <;> rw [he]
  · exact yields_next.mpr hu.datapathOk
  · exact yields_next.mpr (State.datapathOk_of_idle rfl)
  · exact hu.buildCodes fun w hw => yields_next.mpr hw.datapathOk

theorem State.Loaded.doMatch {s : State} {n : Nat} (h : s.Loaded n) (offset : Nat) :
    Yields State.DatapathOk (s.doMatch offset) := by
  obtain ⟨-, he⟩ | ⟨-, -, he⟩ | ⟨-, -, ⟨-, he⟩ | ⟨t, ht, he⟩⟩ := s.doMatch_cases offset <;> rw [he]
  · exact yields_next.mpr (State.datapathOk_of_idle rfl)
  · exact yields_next.mpr (State.datapathOk_of_idle rfl)
  · exact yields_fault
  · rw [State.copyMatch_frame ht]
    exact yields_next.mpr h.datapathOk

/-! ### Every instruction, behind the bits it takes -/

/-- A coded element takes its codeword and its extra bits (30 R322). -/
theorem streamBits_of_layout {i : Instr} {f : Format} {sym cw xw x : Nat} (h : i.layout = .coded f sym cw xw x) :
    i.streamBits = cw + xw := by
  rw [Instr.streamBits, h]

theorem State.Loaded.execPcl {s : State} (h : s.Loaded 3) (l : BitVec 3) : Yields State.DatapathOk (execPcl l s) := by
  unfold Machine.execPcl
  exact h.consume 0 fun h1 => State.Loaded.afterPrecodeLen (n := 0) h1.congr

theorem State.Loaded.execCl {s : State} {cw : BitVec 4} (h : s.Loaded cw.toNat) (n : BitVec 4) :
    Yields State.DatapathOk (execCl cw n s) := by
  unfold Machine.execCl
  exact h.consume 0 fun h1 => h1.writeRun 1 n

theorem State.Loaded.execClRepPrev {s : State} {cw : BitVec 4} (h : s.Loaded (cw.toNat + 2)) (x : BitVec 2) :
    Yields State.DatapathOk (execClRepPrev cw x s) := by
  unfold Machine.execClRepPrev
  refine h.consume 2 fun h1 => ?_
  split
  · exact yields_next.mpr (State.datapathOk_of_idle rfl)
  · exact h1.consume 0 fun h2 => h2.writeRun _ _

theorem State.Loaded.execClZero {s : State} {cw : BitVec 4} (h : s.Loaded (cw.toNat + 3)) (x : BitVec 3) :
    Yields State.DatapathOk (execClZero cw x s) := by
  unfold Machine.execClZero
  exact h.consume 3 fun h1 => h1.consume 0 fun h2 => h2.writeRun _ _

theorem State.Loaded.execClZeroLong {s : State} {cw : BitVec 4} (h : s.Loaded (cw.toNat + 7)) (x : BitVec 7) :
    Yields State.DatapathOk (execClZeroLong cw x s) := by
  unfold Machine.execClZeroLong
  exact h.consume 7 fun h1 => h1.consume 0 fun h2 => h2.writeRun _ _

theorem State.Loaded.execLit {s : State} {cw : BitVec 4} (h : s.Loaded cw.toNat) (b : Byte) :
    Yields State.DatapathOk (execLit cw b s) := by
  unfold Machine.execLit
  refine h.consume 0 fun h1 => ?_
  split
  · exact yields_next.mpr (State.datapathOk_of_idle rfl)
  · exact yields_next.mpr h1.datapathOk

theorem State.Loaded.execEob {s : State} {cw : BitVec 4} (h : s.Loaded cw.toNat) :
    Yields State.DatapathOk (execEob cw s) := by
  unfold Machine.execEob
  exact h.consume 0 fun h1 => yields_next.mpr h1.endBlock

theorem State.Loaded.lengthElement {s : State} {bits : Nat} (h : s.Loaded bits) (length : Nat) :
    Yields State.DatapathOk (s.lengthElement bits length) := by
  unfold State.lengthElement
  exact h.consume 0 fun h1 => yields_next.mpr h1.datapathOk

theorem State.Loaded.offsetElement {s : State} {bits : Nat} (h : s.Loaded bits) (offset : Nat) :
    Yields State.DatapathOk (s.offsetElement bits offset) := by
  unfold State.offsetElement
  exact h.consume 0 fun h1 => h1.doMatch offset

/-- A length symbol's meaning, a reserved one among them. -/
theorem State.Loaded.exec_of_lenInstr {s : State} {sym v : Nat} {cw : BitVec 4} {i : Instr}
    (hi : lenInstr sym cw v = some i) (h : s.Loaded i.streamBits) : Yields State.DatapathOk (exec i s) := by
  unfold lenInstr at hi
  split at hi <;> cases hi
  case h_30 | h_31 => exact yields_next.mpr (State.datapathOk_of_idle rfl)
  all_goals exact State.Loaded.lengthElement h _

/-- An offset symbol's meaning, a reserved one among them. -/
theorem State.Loaded.exec_of_distInstr {s : State} {sym v : Nat} {cw : BitVec 4} {i : Instr}
    (hi : distInstr sym cw v = some i) (h : s.Loaded i.streamBits) : Yields State.DatapathOk (exec i s) := by
  unfold distInstr at hi
  split at hi <;> cases hi
  case h_31 | h_32 => exact yields_next.mpr (State.datapathOk_of_idle rfl)
  all_goals exact State.Loaded.offsetElement h _

/-- The meaning of an element of fixed bits: a block header, a precode length or a command. -/
theorem State.Loaded.exec_of_fixed {s : State} {i : Instr} {bits : List Bool} (hi : i.layout = .fixed bits)
    (h : s.Loaded i.streamBits) : Yields State.DatapathOk (exec i s) := by
  cases i <;> cases hi
  case blockStored final => exact State.Loaded.blockHeader h fun _ hu => hu.storedBlock
  case blockFixed final => exact State.Loaded.blockHeader h fun _ hu => hu.fixedBlock
  case blockDynamic final hlit hdist hclen =>
    exact State.Loaded.blockHeader (State.Loaded.mono (n := 17) h (by decide)) fun _ hu => hu.dynamicBlock _ _ _
  case blockReserved final =>
    exact State.Loaded.blockHeader h fun _ _ => yields_next.mpr (State.datapathOk_of_idle rfl)
  case pcl l => exact State.Loaded.execPcl h l
  case cmdReset flags =>
    show Yields _ (if s.busy then .next s.refuse else .next s.resetObject)
    split
    · exact yields_next.mpr h.datapathOk
    · exact yields_next.mpr (State.datapathOk_of_idle rfl)
  case cmdDecompress wantIn wantOut inBytes outN =>
    show Yields _ (if s.busy then .next s.refuse else .next (s.accept wantIn wantOut inBytes outN))
    split
    · exact yields_next.mpr h.datapathOk
    · exact yields_next.mpr (s.accept_datapathOk _ _ _ _)
  case cmdReserved2 rest => exact yields_next.mpr h.datapathOk
  case cmdReserved3 rest => exact yields_next.mpr h.datapathOk

/-- The meaning of a precode symbol. -/
theorem State.Loaded.exec_of_presym {s : State} {i : Instr} {sym cw xw x : Nat}
    (hi : i.layout = .coded .presym sym cw xw x) (h : s.Loaded i.streamBits) : Yields State.DatapathOk (exec i s) := by
  cases i <;> cases hi
  case cl cw n => exact State.Loaded.execCl h n
  case clRepPrev cw x => exact State.Loaded.execClRepPrev h x
  case clZero cw x => exact State.Loaded.execClZero h x
  case clZeroLong cw x => exact State.Loaded.execClZeroLong h x

/-- An instruction whose bits are loaded keeps the link: no element needs a bit that was not loaded (40 R409). -/
theorem State.Loaded.exec {s : State} {i : Instr} (h : s.Loaded i.streamBits) :
    Yields State.DatapathOk (exec i s) := by
  cases hi : i.layout with
  | fixed bits => exact h.exec_of_fixed hi
  | coded f sym cw xw x =>
    obtain rfl | rfl | rfl := layout_format hi
    · exact h.exec_of_presym hi
    · obtain ⟨b, rfl, -⟩ | ⟨rfl, -⟩ | ⟨-, -, hlen, -⟩ := litlen_layout_cases hi
      · exact State.Loaded.execLit h b
      · exact State.Loaded.execEob h
      · exact h.exec_of_lenInstr hlen
    · obtain ⟨-, hdist, -⟩ := offset_layout_cases hi
      exact h.exec_of_distInstr hdist

/-! ### The bits of a decoded element -/

theorem decodeBlockHeader_streamBits_le (inb : List Byte) (c : Nat) : (decodeBlockHeader inb c).streamBits ≤ 17 := by
  unfold decodeBlockHeader
  split <;> exact Nat.le_of_ble_eq_true rfl

theorem decodePresym_streamBits_le {e : Entry} {inb : List Byte} {c : Nat} {i : Instr}
    (h : decodePresym e inb c = .ok i) : i.streamBits ≤ e.cwbits.toNat + 7 := by
  simp only [decodePresym] at h
  split at h
  · cases h
    exact Nat.add_le_add_left (by decide : 0 ≤ 7) _
  · split at h <;> cases h
    all_goals exact Nat.add_le_add_left (by decide) _

theorem decodeLitlen_streamBits_le {e : Entry} {inb : List Byte} {c : Nat} {i : Instr}
    (h : decodeLitlen e inb c = .ok i) : i.streamBits ≤ e.cwbits.toNat + 5 := by
  unfold decodeLitlen at h
  split at h
  · cases h; exact Nat.add_le_add_left (Nat.zero_le 5) _
  split at h
  · cases h; exact Nat.add_le_add_left (Nat.zero_le 5) _
  split at h
  · split at h
    · cases h; exact Nat.add_le_add_left (Nat.zero_le 5) _
    · split at h <;> cases h
      exact Nat.add_le_add_left (Nat.zero_le 5) _
  · split at h <;> cases h
    next hi =>
    rw [streamBits_of_layout (layout_of_lenInstr hi)]
    exact Nat.add_le_add_left (lenExtra_le _) _

theorem decodeOffset_streamBits_le {e : Entry} {inb : List Byte} {c : Nat} {i : Instr}
    (h : decodeOffset e inb c = .ok i) : i.streamBits ≤ e.cwbits.toNat + 13 := by
  unfold decodeOffset at h
  split at h
  · split at h
    · cases h; exact Nat.add_le_add_left (Nat.zero_le 13) _
    · split at h <;> cases h
      exact Nat.add_le_add_left (Nat.zero_le 13) _
  · split at h <;> cases h
    next hi =>
    rw [streamBits_of_layout (layout_of_distInstr hi)]
    exact Nat.add_le_add_left (offExtra_le _) _

/-! ### Fetching loads what the element takes (40 R423) -/

theorem Fetched.ofDecoded_instr {d : Except DecodeError Instr} {s u : State} {i : Instr}
    (h : Fetched.ofDecoded d s = .instr i u) : d = .ok i ∧ u = s := by
  cases d with
  | ok j => cases h; exact ⟨rfl, rfl⟩
  | error e => cases h

theorem pointerEntry_nbits {start bits T : Nat} (hT : T ≤ 15) : (pointerEntry start bits T).nbits = T := by
  rw [Entry.nbits, pointerEntry, extractLsb'_ofNat_toNat (by decide)]
  omega

/-- An element found by a lookup in a built table: from a direct entry, in the state the lookup began in; or from an
entry behind the root table, `T` bits on. -/
theorem State.lookup_instr {mk : Nat → Nat → Entry} {N T : Nat} {t table : List Entry} {s u : State} {i : Instr}
    {decode : Entry → List Byte → Nat → Except DecodeError Instr} (hres : ∀ j, j < 2 ^ T → Resolves mk N T t j)
    (ht : table.take t.length = t) (hsize : t.length ≤ 2 ^ 15) (hT : T ≤ 15)
    (hmk : ∀ sym n, sym < N → n ≤ 15 → (mk sym n).isPointer = false)
    (h : (s.lookup table T fun e u => .ofDecoded (decode e u.inBuf u.c) u) = .instr i u) :
    (u = s ∧ ∃ e, decode e u.inBuf u.c = .ok i) ∨
    (s.c + T ≤ 8 * s.inN ∧ u = s.advance T ∧
      ∃ k, 2 ^ T ≤ k ∧ decode (t.getD k default) u.inBuf u.c = .ok i) := by
  obtain ⟨-, he⟩ | ⟨-, -, he⟩ | ⟨hp, hin, he⟩ :=
    s.lookup_cases table T fun e u => .ofDecoded (decode e u.inBuf u.c) u <;> rw [he] at h
  · obtain ⟨hd, rfl⟩ := Fetched.ofDecoded_instr h
    exact .inl ⟨rfl, _, hd⟩
  · cases h
  · obtain ⟨sym, n, hsym, hn, hj⟩ | ⟨start, bits, hj, hstart, hbits, hsub⟩ := hres (s.peek T) (peekBits_lt _ _ _)
    · rw [getD_of_take_eq ht hj, hmk sym n hsym hn] at hp
      cases hp
    · have hlt : start < 2 ^ 15 := Nat.lt_of_lt_of_le (hsub 0 (Nat.two_pow_pos _)).lt hsize
      rw [getD_of_take_eq ht hj, pointerEntry_nbits hT] at hin
      rw [getD_of_take_eq ht hj, pointerEntry_nbits hT, pointerEntry_subStart hlt hbits hT,
        pointerEntry_cwbits hbits hT] at h
      obtain ⟨sym, n, -, -, hk⟩ := hsub ((s.advance T).peek bits) (peekBits_lt _ _ _)
      obtain ⟨hd, rfl⟩ := Fetched.ofDecoded_instr h
      rw [getD_of_take_eq ht hk] at hd
      refine .inr ⟨hin, rfl, start + (s.advance T).peek bits, Nat.le_add_right_of_le hstart, ?_⟩
      rwa [List.getD_eq_getElem?_getD, hk]

/-- 40 R423: a lit/len symbol takes at most 11 + 15 + 5 of the 56 bits a refill loads. -/
theorem State.Inv.fetch_body_loaded {s u : State} {i : Instr} (h : s.Inv) (hb : s.busy = true) (hp : s.phase = .body)
    (hl : s.Loaded 0) (hf : fetch s = .instr i u) : u.Loaded i.streamBits := by
  obtain ⟨-, lens, t, hlen, -, ht, htake, hbits⟩ := h.tables.body hb (.inl hp)
  have hres : ∀ j, j < 2 ^ s.litlenTablebits.toNat → Resolves litlenEntry 288 s.litlenTablebits.toNat t j := by
    rw [hbits]
    exact fun j => buildLitlenTable_resolves ht hlen
  have hT := h.ranged.tablebits
  have hsize : t.length ≤ 2 ^ 15 := (buildLitlenTable_length_le ht).trans (by decide)
  rw [fetch_of_body hp] at hf
  obtain ⟨rfl, e, hd⟩ | ⟨hin, rfl, k, -, hd⟩ := State.lookup_instr hres htake hsize (hT.trans (by decide))
    (fun _ _ => litlenEntry_not_isPointer) hf
  · have := decodeLitlen_streamBits_le hd
    have := e.cwbits.isLt
    exact hl.refill.mono (by omega)
  · have := decodeLitlen_streamBits_le hd
    have := (t.getD k default).cwbits.isLt
    exact State.Loaded.advance (hl.refill.mono (by omega)) hin

/-- 40 R423: an offset symbol takes at most 15 + 13 of the 28 bits, or, behind its 8 root bits, 7 + 13
(`buildOffsetTable_shortBehind`). -/
theorem State.Inv.fetch_offset_loaded {s u : State} {i : Instr} (h : s.Inv) (hb : s.busy = true)
    (hp : s.phase = .offset) (hl : s.Loaded 0) (hf : fetch s = .instr i u) : u.Loaded i.streamBits := by
  obtain ⟨⟨lens, t, hlen, -, ht, htake⟩, -⟩ := h.tables.body hb (.inr hp)
  have hsize : t.length ≤ 2 ^ 15 := (buildOffsetTable_length_le ht).trans (by decide)
  rw [fetch_of_offset hp] at hf
  obtain ⟨rfl, e, hd⟩ | ⟨hin, rfl, k, hk, hd⟩ := State.lookup_instr (fun j => buildOffsetTable_resolves ht hlen) htake
    hsize (by decide) (fun _ _ _ => offsetEntry_not_isPointer) hf
  · have := decodeOffset_streamBits_le hd
    have := e.cwbits.isLt
    exact hl.refillForOffset.mono (by omega)
  · have := decodeOffset_streamBits_le hd
    have := buildOffsetTable_shortBehind ht hlen k hk
    exact State.Loaded.advance (hl.refillForOffset.mono (by omega)) hin

/-- What is fetched finds the bits it takes loaded. -/
theorem State.Inv.fetch_loaded {s u : State} {i : Instr} (h : s.Inv) (hb : s.busy = true) (hl : s.Loaded 0)
    (hf : fetch s = .instr i u) : u.Loaded i.streamBits := by
  cases hp : s.phase with
  | blockHeader =>
    rw [fetch, hp] at hf
    cases hf
    exact hl.refill.mono ((decodeBlockHeader_streamBits_le _ _).trans (by decide))
  | precodeLen =>
    rw [fetch, hp] at hf
    cases hf
    exact hl.refill.mono (by decide : 3 ≤ 56)
  | codeLen =>
    rw [fetch_of_codeLen hp] at hf
    obtain ⟨hd, rfl⟩ := Fetched.ofDecoded_instr hf
    have := decodePresym_streamBits_le hd
    have := (s.precodeTable.getD (s.peek 7) default).cwbits.isLt
    exact hl.refill.mono (by omega)
  | body => exact h.fetch_body_loaded hb hp hl hf
  | offset => exact h.fetch_offset_loaded hb hp hl hf

/-! ### A step -/

/-- Every step keeps the link: an accepted command starts with empty registers, a raise ends the command, and an element
finds its bits loaded. -/
theorem step_datapathOk {s : State} (h : s.Inv) (hd : s.DatapathOk) : Yields State.DatapathOk (step s) := by
  obtain ⟨m, i, -, hi, he⟩ | ⟨m, e, -, -, he⟩ | ⟨-, hb, i, u, hf, he⟩ | ⟨-, -, u, hf, he⟩ | ⟨-, -, f, -, he⟩ |
    ⟨-, -, he⟩ := step_cases s <;> rw [he]
  · exact command_yields hi hd (fun _ => State.datapathOk_of_idle rfl) fun _ _ _ => State.accept_datapathOk _ _ _ _ _
  · exact yields_next.mpr hd
  · exact (h.fetch_loaded hb (h.loaded hb hd) hf).exec
  · cases hf ▸ fetch_form s with
    | raised v hv => exact yields_next.mpr (State.datapathOk_of_idle rfl)
  · exact yields_fault
  · exact yields_next.mpr hd

/-- Settles O9: the element that is fetched finds its bits loaded (`State.Inv.fetch_loaded`), an instruction whose bits
are loaded keeps the link (`State.Loaded.exec`), and so does a refill. -/
theorem datapathStaysLinkedToTheCursor : Obligations.DatapathStaysLinkedToTheCursor := by
  refine ⟨fun s t h hd => step_datapathOk h hd t, fun s hc hin hl => ?_⟩
  have h : s.Loaded 0 := ⟨hc, hin.1, hl, Nat.zero_le _⟩
  exact ⟨fun n hn => hl.peek hn, ⟨h.refill.linked, h.refill.bits⟩, ⟨h.refillForOffset.linked, h.refillForOffset.bits⟩⟩

end Sys2Proof.Machine

/-! PROOFS. Where the canonical codewords stand among all strings of bits: the sorted symbols take the codespace one after
another, so every stream begins with at most one codeword (41 R455, R468). -/

namespace Sys2Proof.Machine
open Sys2Proof

/-! ### The sorted symbols, listed exactly (41 R455) -/

/-- The symbols of length `l` in `lens`, each with its length, in increasing order (41 R455). -/
abbrev symbolsOfLength (lens : List Nat) (l : Nat) : List (Nat × Nat) :=
  lens.zipIdx.filterMap fun p => if p.1 = l then some (p.2, l) else none

theorem sortSyms_add_one (lens : List Nat) (L : Nat) :
    sortSyms lens (L + 1) = sortSyms lens L ++ symbolsOfLength lens (L + 1) := sortSyms_succ lens L

theorem mem_symbolsOfLength_iff {lens : List Nat} {l s n : Nat} :
    (s, n) ∈ symbolsOfLength lens l ↔ lens[s]? = some l ∧ n = l := by
  simp only [symbolsOfLength, List.mem_filterMap, List.mem_zipIdx_iff_getElem?]
  constructor
  · rintro ⟨q, hq, hp⟩
    split at hp <;> cases hp
    next hl => exact ⟨hl ▸ hq, rfl⟩
  · rintro ⟨hs, rfl⟩
    exact ⟨(n, s), hs, if_pos rfl⟩

theorem sortSyms_le {lens : List Nat} {L : Nat} {p : Nat × Nat} (h : p ∈ sortSyms lens L) : p.2 ≤ L := by
  obtain ⟨-, -, hle⟩ := mem_sortSyms h
  exact hle

/-- Strict order by length, then by symbol (41 R455). -/
def Precedes (p q : Nat × Nat) : Prop := p.2 < q.2 ∨ p.2 = q.2 ∧ p.1 < q.1

theorem symbolsOfLength_pairwise (lens : List Nat) (l : Nat) : (symbolsOfLength lens l).Pairwise Precedes := by
  have hidx : lens.zipIdx.Pairwise fun p q => p.2 < q.2 := by
    rw [← List.pairwise_map (f := Prod.snd) (R := (· < ·)), List.zipIdx_map_snd]
    exact List.pairwise_lt_range'
  refine List.Pairwise.filterMap _ (fun p q hpq p' hp q' hq => ?_) hidx
  simp only [Option.ite_none_right_eq_some, Option.some.injEq] at hp hq
  obtain ⟨-, rfl⟩ := hp
  obtain ⟨-, rfl⟩ := hq
  exact .inr ⟨rfl, hpq⟩

/-- 41 R455: the sort is strict. -/
theorem sortSyms_pairwise (lens : List Nat) (L : Nat) : (sortSyms lens L).Pairwise Precedes := by
  induction L with
  | zero => exact List.Pairwise.nil
  | succ L ih =>
    rw [sortSyms_add_one, List.pairwise_append]
    refine ⟨ih, symbolsOfLength_pairwise lens _, fun p hp q hq => .inl ?_⟩
    rw [mem_symbolsOfLength hq]
    exact Nat.lt_succ_of_le (sortSyms_le hp)

theorem sortSyms_nodup (lens : List Nat) (L : Nat) : (sortSyms lens L).Nodup :=
  (sortSyms_pairwise lens L).imp fun h heq => by
    subst heq
    rcases h with h | ⟨-, h⟩ <;> exact Nat.lt_irrefl _ h

/-- 41 R455: exactly the symbols of a length from 1 to `L` are sorted. -/
theorem mem_sortSyms_iff {lens : List Nat} {L s l : Nat} :
    (s, l) ∈ sortSyms lens L ↔ lens[s]? = some l ∧ 1 ≤ l ∧ l ≤ L := by
  induction L with
  | zero =>
    constructor
    · exact fun h => absurd h List.not_mem_nil
    · omega
  | succ L ih =>
    rw [sortSyms_add_one, List.mem_append, ih, mem_symbolsOfLength_iff]
    constructor
    · rintro (⟨hp, h1, hL⟩ | ⟨hp, hl⟩)
      · exact ⟨hp, h1, Nat.le_succ_of_le hL⟩
      · exact ⟨hl ▸ hp, by omega, hl.le⟩
    · rintro ⟨hp, h1, hL⟩
      rcases Nat.lt_or_eq_of_le hL with hlt | heq
      · exact .inl ⟨hp, h1, Nat.le_of_lt_succ hlt⟩
      · exact .inr ⟨heq ▸ hp, heq⟩

theorem getD_of_mem_sortSyms {lens : List Nat} {L s l : Nat} (h : (s, l) ∈ sortSyms lens L) : lens.getD s 0 = l := by
  obtain ⟨hs, -, -⟩ := mem_sortSyms_iff.mp h
  rw [List.getD_eq_getElem?_getD, hs, Option.getD_some]

/-- The symbols of a code are those with a length, where no length is over `L`. -/
theorem mem_sortSyms_of_getD {lens : List Nat} {L s : Nat} (hlens : ∀ l ∈ lens, l ≤ L) (h : 1 ≤ lens.getD s 0) :
    (s, lens.getD s 0) ∈ sortSyms lens L := by
  cases hs : lens[s]? with
  | none => rw [List.getD_eq_getElem?_getD, hs] at h; cases h
  | some l =>
    rw [List.getD_eq_getElem?_getD, hs] at h ⊢
    exact mem_sortSyms_iff.mpr ⟨hs, h, hlens l (List.mem_of_getElem? hs)⟩

theorem sortSyms_prefix (lens : List Nat) {m L : Nat} (h : m ≤ L) : sortSyms lens m <+: sortSyms lens L := by
  induction L, h using Nat.le_induction with
  | base => exact List.prefix_rfl
  | succ L _ ih => exact ih.trans (sortSyms_add_one lens L ▸ List.prefix_append _ _)

/-- Where no length is over `L`, sorting further adds nothing. -/
theorem sortSyms_eq_of_le {lens : List Nat} {L m : Nat} (hlens : ∀ l ∈ lens, l ≤ L) (h : L ≤ m) :
    sortSyms lens m = sortSyms lens L := by
  induction m, h using Nat.le_induction with
  | base => rfl
  | succ m hm ih =>
    rw [sortSyms_add_one, ih, List.append_right_eq_self, List.eq_nil_iff_forall_not_mem]
    rintro ⟨s, l⟩ hp
    have := hlens _ (List.mem_of_getElem? (mem_symbolsOfLength_iff.mp hp).1)
    omega

/-- Settles O14: `sorted_syms` begins with the sorted symbols, in their strict order. -/
theorem sortedSymbols : Obligations.SortedSymbols := by
  refine ⟨fun lens L => ⟨sortSyms_pairwise lens L, fun _ _ => mem_sortSyms_iff, fun old k p hk => ?_⟩,
    by decide +kernel⟩
  have hlt := (List.getElem?_eq_some_iff.mp hk).1
  rw [installSorted, overlay, List.getElem?_append_left (by rwa [List.length_map]), List.getElem?_map, hk,
    Option.map_some]

/-! ### The codespace before a symbol (41 R468) -/

theorem spaceUpTo_append (m : Nat) (a b : List (Nat × Nat)) : spaceUpTo m (a ++ b) = spaceUpTo m a + spaceUpTo m b := by
  rw [spaceUpTo, List.map_append, List.sum_append, ← spaceUpTo, ← spaceUpTo]

/-- Where no codeword is longer than `m`, each further bit doubles the strings. -/
theorem spaceUpTo_of_le {m L : Nat} {syms : List (Nat × Nat)} (hsyms : ∀ p ∈ syms, p.2 ≤ m) (h : m ≤ L) :
    spaceUpTo L syms = spaceUpTo m syms * 2 ^ (L - m) := by
  induction syms with
  | nil => rw [spaceUpTo_nil, spaceUpTo_nil, Nat.zero_mul]
  | cons p syms ih =>
    obtain ⟨hp, hsyms⟩ := List.forall_mem_cons.mp hsyms
    rw [spaceUpTo_cons, spaceUpTo_cons, if_pos hp, if_pos (hp.trans h), ih hsyms, Nat.add_mul, ← Nat.pow_add,
      show m - p.2 + (L - m) = L - p.2 by omega]

/-- 41 R468: the first codeword of a length is behind all shorter ones. -/
theorem firstCode_succ (lens : List Nat) (l : Nat) : firstCode lens (l + 1) = 2 * usedSpace lens l := by
  induction l with
  | zero => rfl
  | succ l ih =>
    rw [firstCode, if_neg (Nat.succ_ne_zero l), ih, usedSpace, countLen]
    omega

/-- The symbols of one length before symbol `s`, and `s` itself. -/
theorem symbolsOfLength_split {lens : List Nat} {s l : Nat} (h : lens[s]? = some l) :
    ∃ after, symbolsOfLength lens l = symbolsOfLength (lens.take s) l ++ (s, l) :: after := by
  obtain ⟨hs, hl⟩ := List.getElem?_eq_some_iff.mp h
  have hsplit : lens = lens.take s ++ l :: lens.drop (s + 1) := by
    rw [← hl, List.cons_getElem_drop_succ, List.take_append_drop]
  refine ⟨(List.zipIdx (lens.drop (s + 1)) (s + 1)).filterMap fun p => if p.1 = l then some (p.2, l) else none, ?_⟩
  have hlen : (lens.take s).length = s := List.length_take_of_le hs.le
  conv_lhs => rw [hsplit]
  rw [symbolsOfLength, List.zipIdx_append, List.filterMap_append, List.zipIdx_cons,
    List.filterMap_cons_some (b := (s, l))]
  · rw [hlen, Nat.zero_add]
  · rw [hlen, Nat.zero_add]; exact if_pos rfl

/-- 41 R468: a symbol's canonical codeword, followed by zeros, is the codespace that the symbols sorted before it take. -/
theorem sortSyms_split {lens : List Nat} {L s l : Nat} (h : (s, l) ∈ sortSyms lens L) :
    ∃ before after, sortSyms lens L = before ++ (s, l) :: after ∧
      spaceUpTo L before = canonCode lens s * 2 ^ (L - l) := by
  obtain ⟨hs, h1, hL⟩ := mem_sortSyms_iff.mp h
  obtain ⟨m, rfl⟩ := Nat.exists_eq_add_of_le' h1
  obtain ⟨tail, htail⟩ := sortSyms_prefix lens hL
  obtain ⟨after, hafter⟩ := symbolsOfLength_split hs
  have hshort : ∀ p ∈ sortSyms lens m, p.2 < m + 1 := fun p hp => Nat.lt_succ_of_le (sortSyms_le hp)
  have hsame : ∀ p ∈ symbolsOfLength (lens.take s) (m + 1), p.2 = m + 1 := fun p hp => mem_symbolsOfLength hp
  refine ⟨sortSyms lens m ++ symbolsOfLength (lens.take s) (m + 1), after ++ tail, ?_, ?_⟩
  · rw [← htail, sortSyms_add_one, hafter]
    simp only [List.append_assoc, List.cons_append]
  · have hcode : canonCode lens s = 2 * usedSpace lens m + (lens.take s).count (m + 1) := by
      rw [canonCode, getD_of_mem_sortSyms h, firstCode_succ]
    rw [spaceUpTo_of_le (m := m + 1) _ hL, hcode, spaceUpTo_append, spaceUpTo_succ m (sortSyms lens m),
      spaceUpTo_sortSyms (Nat.le_refl m), spaceUpTo_eq_countP fun p hp => (hsame p hp).ge,
      List.countP_eq_zero.mpr fun p hp => by simpa using (hshort p hp).ne,
      List.countP_eq_length.mpr fun p hp => by simpa using hsame p hp, length_symbolsOfLength, Nat.add_zero]
    intro p hp
    exact (List.mem_append.mp hp).elim (fun hp => (hshort p hp).le) fun hp => (hsame p hp).le

/-! ### Codewords as they are counted (41 R459) -/

theorem bitsValue_codewordBits_lt (l code : Nat) : bitsValue (codewordBits l code) < 2 ^ l := by
  have h := bitsValue_lt (codewordBits l code)
  rwa [codewordBits_length] at h

/-- A string of `l` bits is the codeword that it is in reverse. -/
theorem eq_bitsValue_of_revBits_eq {l x code : Nat} (hx : x < 2 ^ l) (h : revBits l x = code) :
    x = bitsValue (codewordBits l code) := by
  have hmod : x % 2 ^ l = bitsValue (codewordBits l code) % 2 ^ l :=
    mod_eq_of_revBits_eq (h.trans (revBits_codewordBits (h ▸ revBits_lt l x)).symm)
  rwa [Nat.mod_eq_of_lt hx, Nat.mod_eq_of_lt (bitsValue_codewordBits_lt l code)] at hmod

/-- Settles O15: advancing adds 1 to the codeword read in reverse (`advanceCode_spec`), and all ones are the last. -/
theorem advanceStepsTheReversedCodeword : Obligations.AdvanceStepsTheReversedCodeword := by
  refine ⟨fun l x hx => ?_, by decide⟩
  have hrev := revBits_codewordBits (Nat.lt_of_succ_lt hx)
  have hne : bitsValue (codewordBits l x) ≠ 2 ^ l - 1 := fun hones => by
    have hlast := revBits_le_ones l (bitsValue (codewordBits l (x + 1)))
    rw [revBits_codewordBits hx, ← hones, hrev] at hlast
    omega
  obtain ⟨hlt, hnext⟩ := advanceCode_spec (bitsValue_codewordBits_lt l x) hne
  exact eq_bitsValue_of_revBits_eq hlt (by rw [hnext, hrev])

/-! ### Streams that begin with a codeword (41 R466) -/

/-- The bits `x` begin with the codeword of symbol `s`, which has `l` bits (41 R466, R468). -/
structure Begins (lens : List Nat) (L x s l : Nat) : Prop where
  mem  : (s, l) ∈ sortSyms lens L
  code : revBits l x = canonCode lens s

/-- The strings of `L` bits that begin with a symbol's codeword are those behind the codespace of the symbols sorted
before it. -/
theorem Begins.bounds {lens : List Nat} {L x s l : Nat} (h : Begins lens L x s l) :
    ∃ before, before ++ [(s, l)] <+: sortSyms lens L ∧
      spaceUpTo L before ≤ revBits L x ∧ revBits L x < spaceUpTo L (before ++ [(s, l)]) := by
  obtain ⟨hmem, hcode⟩ := h
  obtain ⟨-, -, hl⟩ := mem_sortSyms_iff.mp hmem
  obtain ⟨before, after, hsplit, hspace⟩ := sortSyms_split hmem
  have hsuffix := revBits_lt (L - l) (x / 2 ^ l)
  refine ⟨before, ⟨after, by rw [hsplit, List.append_assoc, List.singleton_append]⟩, ?_⟩
  rw [revBits_split hl, hcode, spaceUpTo_append, spaceUpTo_cons_of_le hl, spaceUpTo_nil, hspace]
  omega

/-- Of two symbols of a list, the earlier takes its codespace before the later. -/
theorem spaceUpTo_le_of_prefix (m : Nat) {a b syms : List (Nat × Nat)} {p q : Nat × Nat} (ha : a ++ [p] <+: syms)
    (hb : b ++ [q] <+: syms) (hlt : a.length < b.length) : spaceUpTo m (a ++ [p]) ≤ spaceUpTo m b := by
  obtain ⟨d, rfl⟩ := List.prefix_of_prefix_length_le ha ((List.prefix_append b [q]).trans hb) (by simpa using hlt)
  rw [spaceUpTo_append m (a ++ [p])]
  exact Nat.le_add_right _ _

/-- No codeword is the beginning of another (41 R466): what begins with the earlier of two symbols comes before all that
begins with the later. -/
theorem Begins.unique {lens : List Nat} {L x s l s' l' : Nat} (h : Begins lens L x s l) (h' : Begins lens L x s' l') :
    s = s' ∧ l = l' := by
  obtain ⟨a, ha, hlo, hhi⟩ := h.bounds
  obtain ⟨b, hb, hlo', hhi'⟩ := h'.bounds
  rcases Nat.lt_trichotomy a.length b.length with hlt | heq | hgt
  · have := spaceUpTo_le_of_prefix L ha hb hlt
    omega
  · have hab := (List.prefix_of_prefix_length_le ha hb (by simp [heq])).eq_of_length (by simp [heq])
    have := (List.append_inj hab heq).2
    simpa using this
  · have := spaceUpTo_le_of_prefix L hb ha hgt
    omega

/-- The codeword of a complete code that is next to be placed is the canonical one of the next symbol (41 R458, R468). -/
theorem CompleteFrom.begins {lens : List Nat} {L c s l : Nat} {rest : List (Nat × Nat)}
    (h : CompleteFrom L l c ((s, l) :: rest)) (hused : usedSpace lens L = 2 ^ L)
    (hrest : (s, l) :: rest <:+ sortSyms lens L) : Begins lens L c s l := by
  have hmem := hrest.subset List.mem_cons_self
  obtain ⟨before, after, hsplit, hspace⟩ := sortSyms_split hmem
  obtain ⟨placed, hplaced⟩ := hrest
  have hnodup := sortSyms_nodup lens L
  rw [hsplit, List.nodup_middle, List.nodup_cons, List.mem_append, not_or] at hnodup
  obtain ⟨⟨hbefore, hafter⟩, -⟩ := hnodup
  obtain ⟨rfl, -, rfl⟩ :=
    (List.append_cons_inj_of_notMem hbefore hafter).mp (hsplit.symm.trans hplaced.symm)
  refine ⟨hmem, Nat.eq_of_mul_eq_mul_right (Nat.two_pow_pos (L - l)) ?_⟩
  have hall := spaceUpTo_sortSyms (lens := lens) (Nat.le_refl L)
  rw [hused, hsplit, spaceUpTo_append, hspace] at hall
  rw [CompleteFrom] at h
  omega

end Sys2Proof.Machine

/-! PROOFS. What a build checks before it fills its table: the longest length, the codespace, the incomplete codes (41 R452,
R454, R456). -/

namespace Sys2Proof.Machine
open Sys2Proof

/-! ### The longest length and the root width (41 R452) -/

theorem one_le_maxLen (lens : List Nat) (L : Nat) : 1 ≤ maxLen lens L := by
  induction L with
  | zero => exact Nat.le_refl 1
  | succ L ih =>
    rw [maxLen]
    split
    · exact Nat.succ_pos L
    · exact ih

theorem maxLen_mem (lens : List Nat) (L : Nat) : maxLen lens L ∈ lens ∨ maxLen lens L = 1 := by
  induction L with
  | zero => exact .inr rfl
  | succ L ih =>
    rw [maxLen]
    split
    · next h =>
      obtain rfl | hused := h
      · exact .inr rfl
      · exact .inl (List.count_pos_iff.mp (Nat.pos_of_ne_zero hused))
    · exact ih

theorem litlenRootBits_toNat (lens : List Nat) : (BitVec.ofNat 4 (litlenRootBits lens)).toNat = litlenRootBits lens := by
  have := litlenRootBits_le lens
  rw [BitVec.toNat_ofNat]
  omega

/-- A lit/len build that fails ends the command in a state with the root width written. -/
theorem State.failLitlen_eq (s : State) (e : Cause) : ∃ u, s.failLitlen e = .next u ∧ State.EndedWith e.result u ∧
    u.litlenTablebits.toNat = litlenRootBits s.litlenLengths :=
  ⟨_, rfl, State.raise_ended _ e, litlenRootBits_toNat _⟩

theorem State.failOffset_eq (s : State) (e : Cause) : ∃ u, s.failOffset e = .next u ∧ State.EndedWith e.result u :=
  ⟨_, rfl, State.raise_ended _ e⟩

theorem State.failPrecode_eq (s : State) (e : Cause) : ∃ u, s.failPrecode e = .next u ∧ State.EndedWith e.result u :=
  ⟨_, rfl, State.raise_ended _ e⟩

/-! ### Builds over the state that fail (41 R469) -/

/-- Where the lengths are refused, the build over the state ends the command with BAD_DATA. -/
theorem State.buildPrecode_refused {s : State} (k : State → Out)
    (h : buildPrecodeTable s.precodeLengths = .error .overfull ∨
      buildPrecodeTable s.precodeLengths = .error .incomplete) :
    ∃ u, s.buildPrecode k = .next u ∧ State.EndedWith .badData u := by
  obtain h | h := h <;> rw [State.buildPrecode, h]
  · exact s.failPrecode_eq .overfullCode
  · exact s.failPrecode_eq .incompleteCode

theorem State.buildOffset_refused {s : State} (k : State → Out)
    (h : buildOffsetTable s.offsetLengths = .error .overfull ∨ buildOffsetTable s.offsetLengths = .error .incomplete) :
    ∃ u, s.buildOffset k = .next u ∧ State.EndedWith .badData u := by
  obtain h | h := h <;> rw [State.buildOffset, h]
  · exact s.failOffset_eq .overfullCode
  · exact s.failOffset_eq .incompleteCode

/-- The lit/len build has written the root width by then. -/
theorem State.buildLitlen_refused {s : State} (k : State → Out)
    (h : buildLitlenTable s.litlenLengths = .error .overfull ∨ buildLitlenTable s.litlenLengths = .error .incomplete) :
    ∃ u, s.buildLitlen k = .next u ∧ State.EndedWith .badData u ∧
      u.litlenTablebits.toNat = litlenRootBits s.litlenLengths := by
  obtain h | h := h <;> rw [State.buildLitlen, h]
  · exact s.failLitlen_eq .overfullCode
  · exact s.failLitlen_eq .incompleteCode

/-- Settles O13: the search for the longest length stops at a used one, and both ends of a lit/len build write the root
width. -/
theorem longestLengthAndRootWidth : Obligations.LongestLengthAndRootWidth := by
  refine ⟨fun lens L hL => ⟨one_le_maxLen lens L, maxLen_le hL, fun l hl hlL => ?_, maxLen_mem lens L⟩, fun _ => rfl,
    fun s t e => ⟨litlenRootBits_toNat _, ?_⟩, fun s k => ⟨s.buildLitlen_refused k, fun t ht => ?_⟩, by decide +kernel⟩
  · exact List.count_eq_zero.mp (countLen_of_maxLen_lt hl hlL)
  · obtain ⟨u, hu, -, hbits⟩ := s.failLitlen_eq e
    exact ⟨u, hu, hbits⟩
  · exact ⟨s.withLitlen t, by rw [State.buildLitlen, ht], litlenRootBits_toNat _⟩

/-! ### The codespace (41 R454) -/

/-- 41 R454: the codespace is the sum over the lengths. -/
theorem usedSpace_eq_sum (lens : List Nat) (m : Nat) :
    usedSpace lens m = ∑ l ∈ Finset.Icc 1 m, lens.count l * 2 ^ (m - l) := by
  induction m with
  | zero => rfl
  | succ m ih =>
    rw [usedSpace, ih, Finset.sum_Icc_succ_top (by omega), Finset.mul_sum, Nat.sub_self, Nat.pow_zero, Nat.mul_one,
      countLen]
    refine congrArg (· + _) (Finset.sum_congr rfl fun l hl => ?_)
    rw [Nat.succ_sub (Finset.mem_Icc.mp hl).2, Nat.pow_succ]
    ring

/-- 41 R454: a build refuses an overfull code, and no other as overfull. -/
theorem buildTable_overfull_iff {lens : List Nat} {mk : Nat → Nat → Entry} {T L enough : Nat} :
    buildTable lens mk T L enough = .error .overfull ↔ 2 ^ maxLen lens L < usedSpace lens (maxLen lens L) := by
  rw [buildTable]
  dsimp only
  split
  · next h => exact iff_of_true rfl h
  · next h => exact iff_of_false (by split_ifs <;> simp) h

/-- Settles O11: the test of a build is the sum's (`usedSpace_eq_sum`), and an overfull code ends the command. -/
theorem codespaceDecidesOverfull : Obligations.CodespaceDecidesOverfull := by
  refine ⟨fun lens mk T L enough => ?_, fun s k => ⟨fun h => ?_, fun h => ?_, fun h => ?_⟩⟩
  · rw [← usedSpace_eq_sum]
    exact buildTable_overfull_iff
  · exact s.buildPrecode_refused k (.inl (buildTable_overfull_iff.mpr h))
  · exact s.buildOffset_refused k (.inl (buildTable_overfull_iff.mpr h))
  · obtain ⟨u, hu, hended, -⟩ := s.buildLitlen_refused k (.inl (buildTable_overfull_iff.mpr h))
    exact ⟨u, hu, hended⟩

/-! ### The incomplete codes (41 R456) -/

section
variable {lens : List Nat} {mk : Nat → Nat → Entry} {T L enough sym : Nat}

/-- Every symbol takes codespace at a width that holds its codeword. -/
theorem lt_of_spaceUpTo_eq_zero {m : Nat} {syms : List (Nat × Nat)} (h : spaceUpTo m syms = 0) :
    ∀ p ∈ syms, m < p.2 := fun p hp => Nat.lt_of_not_le fun hle => by
  have hzero := List.sum_eq_zero_iff.mp h _ (List.mem_map_of_mem hp)
  rw [if_pos hle] at hzero
  exact (Nat.two_pow_pos _).ne' hzero

theorem eq_nil_of_spaceUpTo_eq_zero {m : Nat} {syms : List (Nat × Nat)} (hle : ∀ p ∈ syms, p.2 ≤ m)
    (h : spaceUpTo m syms = 0) : syms = [] :=
  List.eq_nil_iff_forall_not_mem.mpr fun p hp => Nat.not_le.mpr (lt_of_spaceUpTo_eq_zero h p hp) (hle p hp)

theorem sortSyms_le_maxLen {p : Nat × Nat} (h : p ∈ sortSyms lens L) : p.2 ≤ maxLen lens L :=
  Nat.le_of_not_lt fun hlt => by
    obtain ⟨hp, -, hL⟩ := mem_sortSyms_iff.mp h
    exact List.count_eq_zero.mp (countLen_of_maxLen_lt hlt hL) (List.mem_of_getElem? hp)

/-- The codespace of a code at its longest length is that of its sorted symbols. -/
theorem spaceUpTo_maxLen (hL : 1 ≤ L) :
    spaceUpTo (maxLen lens L) (sortSyms lens L) = usedSpace lens (maxLen lens L) := spaceUpTo_sortSyms (maxLen_le hL)

theorem usedSpace_eq_zero_iff (hL : 1 ≤ L) : usedSpace lens (maxLen lens L) = 0 ↔ sortSyms lens L = [] := by
  rw [← spaceUpTo_maxLen hL]
  exact ⟨eq_nil_of_spaceUpTo_eq_zero fun p => sortSyms_le_maxLen, fun h => by rw [h, spaceUpTo_nil]⟩

/-- 41 R456: the test for the second accepted incomplete code finds exactly the codes of one symbol, of length 1. -/
theorem single_iff (hL : 1 ≤ L) :
    (usedSpace lens (maxLen lens L) = 2 ^ (maxLen lens L - 1) ∧ countLen lens 1 = 1) ↔
      ∃ sym, sortSyms lens L = [(sym, 1)] := by
  have hm := one_le_maxLen lens L
  rw [← spaceUpTo_maxLen hL, ← countP_sortSyms lens L 1 (Nat.le_refl 1) hL]
  constructor
  · rintro ⟨hspace, hcount⟩
    obtain ⟨⟨sym, l⟩, hmem, hl⟩ := List.countP_pos_iff.mp (Nat.lt_of_lt_of_eq Nat.one_pos hcount.symm)
    obtain rfl : l = 1 := by simpa using hl
    obtain ⟨before, after, hsplit⟩ := List.append_of_mem hmem
    have hle : ∀ p ∈ sortSyms lens L, p.2 ≤ maxLen lens L := fun p => sortSyms_le_maxLen
    rw [hsplit] at hspace hle
    rw [spaceUpTo_append, spaceUpTo_cons_of_le hm] at hspace
    have hbefore : before = [] := eq_nil_of_spaceUpTo_eq_zero (fun p hp => hle p (by simp [hp])) (by omega)
    have hafter : after = [] := eq_nil_of_spaceUpTo_eq_zero (fun p hp => hle p (by simp [hp])) (by omega)
    exact ⟨sym, by rw [hsplit, hbefore, hafter, List.nil_append]⟩
  · rintro ⟨sym, hsym⟩
    rw [hsym, spaceUpTo_cons_of_le hm]
    exact ⟨rfl, rfl⟩

theorem sortSyms_eq_nil_iff (hlens : ∀ l ∈ lens, l ≤ L) : sortSyms lens L = [] ↔ ∀ l ∈ lens, l = 0 := by
  rw [List.eq_nil_iff_forall_not_mem]
  constructor
  · intro h l hl
    obtain ⟨s, hs⟩ := List.mem_iff_getElem?.mp hl
    refine Nat.eq_zero_of_not_pos fun h1 => h (s, l) (mem_sortSyms_iff.mpr ⟨hs, h1, hlens l hl⟩)
  · rintro h ⟨s, l⟩ hmem
    obtain ⟨hs, h1, -⟩ := mem_sortSyms_iff.mp hmem
    have := h l (List.mem_of_getElem? hs)
    omega

/-- One symbol is sorted, with length 1, where it is the only one that is used. -/
theorem sortSyms_eq_singleton_iff (hL : 1 ≤ L) (hlens : ∀ l ∈ lens, l ≤ L) :
    sortSyms lens L = [(sym, 1)] ↔ lens[sym]? = some 1 ∧ ∀ j, j ≠ sym → lens.getD j 0 = 0 := by
  constructor
  · intro h
    refine ⟨(mem_sortSyms_iff.mp (h ▸ List.mem_singleton_self (sym, 1))).1, fun j hj => ?_⟩
    refine Nat.eq_zero_of_not_pos fun h1 => hj ?_
    have hmem := mem_sortSyms_of_getD hlens h1
    rw [h, List.mem_singleton] at hmem
    exact congrArg Prod.fst hmem
  · rintro ⟨hsym, hrest⟩
    refine List.perm_singleton.mp ((List.perm_ext_iff_of_nodup (sortSyms_nodup lens L) (List.nodup_singleton _)).mpr ?_)
    rintro ⟨s, l⟩
    rw [List.mem_singleton, Prod.mk.injEq]
    constructor
    · intro hmem
      obtain ⟨hs, h1, -⟩ := mem_sortSyms_iff.mp hmem
      have hlen := getD_of_mem_sortSyms hmem
      obtain rfl : s = sym := by_contra fun hne => by
        have := hrest s hne
        omega
      exact ⟨rfl, Option.some.inj (hs.symm.trans hsym)⟩
    · rintro ⟨rfl, rfl⟩
      exact mem_sortSyms_iff.mpr ⟨hsym, Nat.le_refl 1, hL⟩

/-- 41 R456: what a build makes of an incomplete code. -/
theorem buildTable_of_incomplete (h : usedSpace lens (maxLen lens L) < 2 ^ maxLen lens L) :
    buildTable lens mk T L enough =
      if usedSpace lens (maxLen lens L) = 0 then .ok (List.replicate (2 ^ T) (mk 0 1))
      else if usedSpace lens (maxLen lens L) = 2 ^ (maxLen lens L - 1) ∧ countLen lens 1 = 1 then
        .ok (List.replicate (2 ^ T) (mk (((sortSyms lens L).head?.map Prod.fst).getD 0) 1))
      else .error .incomplete := by
  rw [buildTable]
  dsimp only
  rw [if_neg h.not_gt, if_pos h]

end

/-- Settles O12: the two tests of a build on an incomplete code are on its sorted symbols (`usedSpace_eq_zero_iff`,
`single_iff`). -/
theorem incompleteCodes : Obligations.IncompleteCodes := by
  refine ⟨fun lens mk T L enough hL hlens hused => ?_, fun s k => ⟨fun h => ?_, fun h => ?_, fun h => ?_⟩⟩
  · rw [buildTable_of_incomplete hused]
    refine ⟨fun hzero => ?_, fun sym hsym hrest => ?_, fun ⟨l, hl, hne⟩ hnot => ?_⟩
    · rw [if_pos ((usedSpace_eq_zero_iff hL).mpr ((sortSyms_eq_nil_iff hlens).mpr hzero))]
    · have hsorted := (sortSyms_eq_singleton_iff hL hlens).mpr ⟨hsym, hrest⟩
      rw [if_neg fun h => ?_, if_pos ((single_iff hL).mpr ⟨sym, hsorted⟩), hsorted]
      · rfl
      · rw [usedSpace_eq_zero_iff hL, hsorted] at h
        cases h
    · rw [if_neg fun h => ?_, if_neg fun h => ?_]
      · obtain ⟨sym, hsorted⟩ := (single_iff hL).mp h
        exact hnot ⟨sym, (sortSyms_eq_singleton_iff hL hlens).mp hsorted⟩
      · exact hne ((sortSyms_eq_nil_iff hlens).mp ((usedSpace_eq_zero_iff hL).mp h) l hl)
  · exact s.buildPrecode_refused k (.inr h)
  · exact s.buildOffset_refused k (.inr h)
  · obtain ⟨u, hu, hended, -⟩ := s.buildLitlen_refused k (.inr h)
    exact ⟨u, hu, hended⟩

end Sys2Proof.Machine

/-! PROOFS. A built table holds, for every string of bits, the entry of the symbol whose codeword it begins with (41 R458 to
R466). -/

namespace Sys2Proof.Machine
open Sys2Proof

section
variable {lens : List Nat} {mk : Nat → Nat → Entry} {N L T n x s l : Nat} {rest : List (Nat × Nat)} {b : Sub} {f : Fill}

/-! ### The root table (41 R458, R460) -/

/-- At the index of the bits `x`, a table of `2 ^ n` entries holds the entry of the symbol whose codeword they begin
with. -/
def RootDecodes (lens : List Nat) (mk : Nat → Nat → Entry) (L n : Nat) (t : List Entry) (x : Nat) : Prop :=
  ∃ s l, Begins lens L x s l ∧ l ≤ n ∧ t[x % 2 ^ n]? = some (mk s l)

theorem RootDecodes.congr {t t' : List Entry} (h : RootDecodes lens mk L n t x) (ht : t'[x % 2 ^ n]? = t[x % 2 ^ n]?) :
    RootDecodes lens mk L n t' x := by
  obtain ⟨s, l, hx, hl, he⟩ := h
  exact ⟨s, l, hx, hl, ht.trans he⟩

theorem RootDecodes.mirror (h : RootDecodes lens mk L n f.table x) (size : f.curEnd = 2 ^ n) (exact : f.Exact)
    (m : Nat) : RootDecodes lens mk L (n + m) (f.mirror m).table x := by
  obtain ⟨s, l, hx, hl, he⟩ := h
  refine ⟨s, l, hx, Nat.le_add_right_of_le hl, ?_⟩
  rw [Fill.mirror_getElem? exact _ _ (by rw [size, ← Nat.pow_add]; exact Nat.mod_lt _ (Nat.two_pow_pos _)), size,
    Nat.mod_mod_of_dvd _ (Nat.pow_dvd_pow 2 (Nat.le_add_right n m)), he]

theorem RootDecodes.mirrorTo (h : RootDecodes lens mk L n f.table x) (size : f.curEnd = 2 ^ n) (exact : f.Exact)
    (hnT : n ≤ T) : RootDecodes lens mk L T (f.mirror (T - n)).table x := by
  have := h.mirror size exact (T - n)
  rwa [Nat.add_sub_cancel' hnT] at this

/-- Writing the entry of the current codeword decodes all bits up to it. -/
theorem Fill.Main.set_decodes (h : f.Main mk N l) (hcode : Begins lens L f.codeword s l)
    (hbefore : ∀ x, revBits l x < revBits l f.codeword → RootDecodes lens mk L l f.table x)
    (hx : revBits l x ≤ revBits l f.codeword) :
    RootDecodes lens mk L l (f.table.set f.codeword (mk s l)) x := by
  have hlen : f.table.length = 2 ^ l := h.exact.trans h.size
  obtain hlt | heq := Nat.lt_or_eq_of_le hx
  · refine (hbefore x hlt).congr (List.getElem?_set_ne fun heq => ?_)
    rw [heq, revBits_mod] at hlt
    exact Nat.lt_irrefl _ hlt
  · have hmod := mod_eq_of_revBits_eq heq
    rw [Nat.mod_eq_of_lt h.code] at hmod
    exact ⟨s, l, ⟨hcode.mem, heq.trans hcode.code⟩, Nat.le_refl l,
      by rw [hmod, List.getElem?_set_self (by rw [hlen]; exact h.code)]⟩

/-- After a codeword that is not all ones, the main phase goes on from the next one. -/
theorem Fill.Main.next (h : f.Main mk N l) (hs : s < N) (hl : l ≤ 15) (hne : f.codeword ≠ f.curEnd - 1) :
    Fill.Main mk N l
      { f with table := f.table.set f.codeword (mk s l), codeword := advanceCode f.codeword f.curEnd } ∧
    revBits l (advanceCode f.codeword f.curEnd) = revBits l f.codeword + 1 := by
  rw [h.size] at hne
  obtain ⟨hlt, hrev⟩ := advanceCode_spec h.code hne
  rw [← h.size] at hlt hrev
  exact ⟨⟨h.size, h.exact.set _ _, hlt.trans_eq h.size,
    fun j hj hj' => h.set hs hl hj (Nat.le_of_lt_succ (hj'.trans_eq hrev))⟩, hrev⟩

/-- 41 R458: the main phase decodes all bits that come before the first codeword of more than `T` bits. -/
theorem fillMain_decodes (hT : T ≤ L) (hL : L ≤ 15) (hused : usedSpace lens L = 2 ^ L) (syms : List (Nat × Nat))
    {len : Nat} {f : Fill} (hsyms : syms <:+ sortSyms lens L) (hlen : len ≤ T) (hf : f.Main mk N len)
    (hr : Remaining lens N L len syms) (hc : CompleteFrom L len f.codeword syms)
    (hd : ∀ x, revBits len x < revBits len f.codeword → RootDecodes lens mk L len f.table x) :
    ((fillMain mk T syms len f).2 = [] ∧ ∀ x, RootDecodes lens mk L T (fillMain mk T syms len f).1.table x) ∨
    ((fillMain mk T syms len f).2 ≠ [] ∧ (fillMain mk T syms len f).2 <:+ sortSyms lens L ∧
      ∀ x, revBits T x < revBits T (fillMain mk T syms len f).1.codeword →
        RootDecodes lens mk L T (fillMain mk T syms len f).1.table x) := by
  induction syms generalizing len f with
  | nil => exact absurd rfl (hc.ne_nil (hlen.trans hT))
  | cons p rest ih =>
    obtain ⟨s, l⟩ := p
    rw [fillMain]
    split
    · refine .inr ⟨List.cons_ne_nil _ _, hsyms, fun x hx => ?_⟩
      have hx : revBits T x < revBits T (f.mirror (T - len)).codeword := hx
      rw [Fill.mirror_codeword] at hx
      exact (hd x (revBits_lt_of_le hlen hf.code hx)).mirrorTo hf.size hf.exact hlen
    · next hle =>
      have hlT : l ≤ T := Nat.le_of_not_lt hle
      have hg := hf.mirrorTo hr.head_ge
      have hcg := (completeFrom_iff_of_le hf.code hr.head_ge hr.head_le).mpr hc
      have hdg : ∀ x, revBits l x < revBits l (f.mirror (l - len)).codeword →
          RootDecodes lens mk L l (f.mirror (l - len)).table x := fun x hx => by
        rw [Fill.mirror_codeword] at hx
        exact (hd x (revBits_lt_of_le hr.head_ge hf.code hx)).mirrorTo hf.size hf.exact hr.head_ge
      rw [← Fill.mirror_codeword (l - len) f] at hcg
      generalize f.mirror (l - len) = g at hg hcg hdg
      have hcode := hcg.begins hused hsyms
      dsimp only
      split
      · next hlast =>
        refine .inl ⟨rfl, fun x => RootDecodes.mirrorTo (f := { g with table := g.table.set g.codeword (mk s l) })
          (hg.set_decodes hcode hdg ?_) hg.size (hg.exact.set _ _) hlT⟩
        rw [hlast, hg.size]
        exact revBits_le_ones l x
      · next hnot =>
        obtain ⟨hnext, hrev⟩ := hg.next hr.head_symbol (hlT.trans (hT.trans hL)) hnot
        refine ih ((List.suffix_cons _ _).trans hsyms) hlT hnext hr.tail (hcg.next hr.head_le hrev) fun x hx => ?_
        exact hg.set_decodes hcode hdg (Nat.le_of_lt_succ (hx.trans_eq hrev))

/-! ### Subtables (41 R461 to R464) -/

/-- The subtable `b` decodes the bits `x`: its pointer stands at their root index, and its slot for the bits behind these
holds the entry of the symbol whose codeword they begin with, with the bits that the root leaves of it (41 R463,
R464). -/
structure Sub.Decodes (lens : List Nat) (mk : Nat → Nat → Entry) (L T : Nat) (t : List Entry) (b : Sub) (x : Nat) :
    Prop where
  pre     : b.pre = x % 2 ^ T
  start   : 2 ^ T ≤ b.start
  bits    : T + b.bits ≤ L
  inside  : b.start + 2 ^ b.bits ≤ t.length
  pointer : t[b.pre]? = some (pointerEntry b.start b.bits T)
  entry   : ∃ s l, Begins lens L x s l ∧ T < l ∧ t[b.start + x / 2 ^ T % 2 ^ b.bits]? = some (mk s (l - T))

/-- Changes that keep the root slot and the subtable's slot of `x` leave it decoded. -/
theorem Sub.Decodes.congr {t t' : List Entry} (h : b.Decodes lens mk L T t x) (hlen : t.length ≤ t'.length)
    (hroot : t'[x % 2 ^ T]? = t[x % 2 ^ T]?)
    (hslot : t'[b.start + x / 2 ^ T % 2 ^ b.bits]? = t[b.start + x / 2 ^ T % 2 ^ b.bits]?) :
    b.Decodes lens mk L T t' x := by
  refine ⟨h.pre, h.start, h.bits, h.inside.trans hlen, ?_, ?_⟩
  · rw [h.pre, hroot, ← h.pre]
    exact h.pointer
  · rw [hslot]
    exact h.entry

/-- A subtable's slots end with it. -/
theorem Sub.slot_lt (b : Sub) (T x : Nat) :
    b.start + x / 2 ^ T % 2 ^ b.bits < b.start + 2 ^ b.bits :=
  Nat.add_lt_add_left (Nat.mod_lt _ (Nat.two_pow_pos _)) _

/-- The table decodes the bits `x` from the root, or through a subtable that is the last one opened or ends before it. -/
def TableDecodes (lens : List Nat) (mk : Nat → Nat → Entry) (L T : Nat) (t : List Entry) (cur : Option Sub) (x : Nat) :
    Prop :=
  RootDecodes lens mk L T t x ∨
    ∃ b last, b.Decodes lens mk L T t x ∧ cur = some last ∧ (b = last ∨ b.start + 2 ^ b.bits ≤ last.start)

/-- A new subtable leaves decoded what comes before its root slot. -/
theorem Fill.Passed.grow_decodes {syms : List (Nat × Nat)} {cur : Option Sub} (h : f.Passed mk N L T n syms)
    (hx : TableDecodes lens mk L T f.table cur x) (hpre : revBits T x < revBits T f.codeword) {bits : Nat}
    (hb : b.start = f.curEnd) : TableDecodes lens mk L T (f.grow T bits).table (some b) x := by
  have hlen : f.table.length = f.curEnd := h.exact
  have hroot := h.root
  have hmod : x % 2 ^ T < 2 ^ T := Nat.mod_lt _ (Nat.two_pow_pos T)
  have hne : x % 2 ^ T ≠ f.codeword % 2 ^ T := fun heq => by
    rw [← revBits_mod, heq, revBits_mod] at hpre
    exact Nat.lt_irrefl _ hpre
  have hkeep := Fill.grow_getElem?_of_ne (f := f) (k := x % 2 ^ T) (by omega) hne bits
  obtain hx | ⟨b', -, hx, -, -⟩ := hx
  · exact .inl (hx.congr hkeep)
  · have hslot := b'.slot_lt T x
    have hinside := hx.inside
    have hstart := hx.start
    have hcode : f.codeword % 2 ^ T < 2 ^ T := Nat.mod_lt _ (Nat.two_pow_pos T)
    refine .inr ⟨b', b, hx.congr ?_ hkeep (Fill.grow_getElem?_of_ne (by omega) (by omega) bits), rfl, .inr (by omega)⟩
    rw [h.exact, (h.grow bits).exact]
    exact Nat.le_add_right _ _

theorem openSub_codeword {cur : Option Sub} {g : Fill}
    (ho : openSub lens T l (1 + rest.countP fun p => p.2 = l) cur f = (b, g)) : g.codeword = f.codeword := by
  obtain ⟨b', -, -, he⟩ | ⟨-, he⟩ := openSub_eq lens T l rest cur f <;> cases he.symm.trans ho <;> rfl

/-- Opening a subtable leaves decoded what comes before the codeword. -/
theorem openSub_decodes {cur : Option Sub} {g : Fill} (h : f.Passed mk N L T l ((s, l) :: rest))
    (hcur : SubtableAt mk N L T l ((s, l) :: rest) cur f) (hT : T < l)
    (ho : openSub lens T l (1 + rest.countP fun p => p.2 = l) cur f = (b, g))
    (hx : TableDecodes lens mk L T f.table cur x) (hbefore : revBits l x < revBits l f.codeword) :
    TableDecodes lens mk L T g.table (some b) x := by
  obtain ⟨b', rfl, -, he⟩ | ⟨hnew, he⟩ := openSub_eq lens T l rest cur f
  · cases he.symm.trans ho
    exact hx
  · cases he.symm.trans ho
    obtain ⟨b', hb', hopen⟩ | ⟨-, hc⟩ := hcur
    · exact absurd hopen.pre (hnew b' hb')
    · exact h.grow_decodes hx (revBits_lt_of_le hT.le hc hbefore) rfl

/-- Slots out of step stay. -/
theorem fillStride_getElem?_of_ne (e : Entry) (step n j k : Nat) (t : List Entry) (h : ∀ i, k ≠ j + i * step) :
    (fillStride e step n j t)[k]? = t[k]? := by
  induction n generalizing j t with
  | zero => rfl
  | succ n ih =>
    rw [fillStride, ih, List.getElem?_set_ne fun heq => h 0 (by omega)]
    intro i hi
    exact h (i + 1) (by rw [hi, Nat.succ_mul]; omega)

theorem placed_length (mk : Nat → Nat → Entry) (T s l : Nat) (b : Sub) (f : Fill) :
    (placed mk T s l b f).length = f.table.length := fillStride_length ..

/-- The entry of the current codeword stands only in the slots of bits that begin with it. -/
theorem Sub.Open.placed_slot (h : b.Open mk N L T l ((s, l) :: rest) f) (hT : T < l)
    (hroot : x % 2 ^ T = f.codeword % 2 ^ T) (hne : x % 2 ^ l ≠ f.codeword % 2 ^ l) :
    (placed mk T s l b f)[b.start + x / 2 ^ T % 2 ^ b.bits]? = f.table[b.start + x / 2 ^ T % 2 ^ b.bits]? := by
  refine fillStride_getElem?_of_ne _ _ _ _ _ _ fun i hi => hne ?_
  have hwidth := h.width
  have hk : x / 2 ^ T % 2 ^ b.bits = f.codeword / 2 ^ T + i * 2 ^ (l - T) := by omega
  have hsuffix : x / 2 ^ T % 2 ^ (l - T) = f.codeword / 2 ^ T % 2 ^ (l - T) := by
    rw [← Nat.mod_mod_of_dvd _ (Nat.pow_dvd_pow 2 (show l - T ≤ b.bits by omega)), hk, Nat.add_mul_mod_self_right]
  rw [← Nat.add_sub_cancel' hT.le, Nat.pow_add, Nat.mod_mul, Nat.mod_mul, hroot, hsuffix]

/-- The entry of the current codeword stands in every slot of bits that begin with it (41 R464). -/
theorem Sub.Open.placed_slot_self (h : b.Open mk N L T l ((s, l) :: rest) f) (hT : T < l)
    (hword : x % 2 ^ l = f.codeword) :
    (placed mk T s l b f)[b.start + x / 2 ^ T % 2 ^ b.bits]? = some (mk s (l - T)) := by
  have hwidth := h.width
  have hk : x / 2 ^ T % 2 ^ b.bits < 2 ^ b.bits := Nat.mod_lt _ (Nat.two_pow_pos _)
  have hsuffix : x / 2 ^ T % 2 ^ b.bits % 2 ^ (l - T) = f.codeword / 2 ^ T := by
    rw [Nat.mod_mod_of_dvd _ (Nat.pow_dvd_pow 2 (show l - T ≤ b.bits by omega)), ← hword, ← Nat.add_sub_cancel' hT.le,
      Nat.pow_add, Nat.mod_mul_right_div_self, Nat.add_sub_cancel_left]
  generalize x / 2 ^ T % 2 ^ b.bits = k at hk hsuffix
  have hslot : b.start + k = b.start + f.codeword / 2 ^ T + k / 2 ^ (l - T) * 2 ^ (l - T) := by
    rw [← hsuffix, Nat.add_assoc, Nat.mod_add_div']
  have hi : k / 2 ^ (l - T) < 2 ^ (b.bits - (l - T)) := by
    rw [Nat.div_lt_iff_lt_mul (Nat.two_pow_pos _), ← Nat.pow_add, Nat.sub_add_cancel (by omega)]
    exact hk
  rw [hslot]
  refine fillStride_getElem?_stride _ _ _ hi ?_
  rw [← hslot, ← h.size]
  exact Nat.add_lt_add_left hk _

/-- Placing the entry of the current codeword decodes all bits up to it (41 R464). -/
theorem Sub.Open.placed_decodes (h : b.Open mk N L T l ((s, l) :: rest) f) (hT : T < l) (hc : f.codeword < 2 ^ l)
    (hcode : Begins lens L f.codeword s l)
    (hbefore : ∀ x, revBits l x < revBits l f.codeword → TableDecodes lens mk L T f.table (some b) x)
    (hx : revBits l x ≤ revBits l f.codeword) : TableDecodes lens mk L T (placed mk T s l b f) (some b) x := by
  have hmod : x % 2 ^ T < 2 ^ T := Nat.mod_lt _ (Nat.two_pow_pos T)
  have hkeep := h.placed_getElem?_root (mk := mk) hmod
  have hlen := (placed_length mk T s l b f).ge
  obtain hlt | heq := Nat.lt_or_eq_of_le hx
  · obtain hx | ⟨b', last, hx, hlast, hb'⟩ := hbefore x hlt
    · exact .inl (hx.congr hkeep)
    · cases hlast
      refine .inr ⟨b', b, hx.congr hlen hkeep ?_, rfl, hb'⟩
      obtain rfl | hend := hb'
      · refine h.placed_slot hT (hx.pre.symm.trans h.pre) fun heq => ?_
        rw [← revBits_mod, heq, revBits_mod] at hlt
        exact Nat.lt_irrefl _ hlt
      · exact fillStride_getElem?_of_lt _ _ _ _
          (Nat.lt_of_lt_of_le (b'.slot_lt T x) (Nat.le_add_right_of_le hend))
  · have hword := mod_eq_of_revBits_eq heq
    rw [Nat.mod_eq_of_lt hc] at hword
    have hroot : x % 2 ^ T = f.codeword % 2 ^ T := by
      rw [← hword, Nat.mod_mod_of_dvd _ (Nat.pow_dvd_pow 2 hT.le)]
    refine .inr ⟨b, b, ⟨h.pre.trans hroot.symm, h.start, h.bits, h.size.le.trans hlen, ?_,
      s, l, ⟨hcode.mem, heq.trans hcode.code⟩, hT, h.placed_slot_self hT hword⟩, rfl, .inl rfl⟩
    rw [h.pre, ← hroot, hkeep, hroot, ← h.pre]
    exact h.pointer

/-- 41 R461 to R464: the subtable phase decodes all bits. -/
theorem fillSub_decodes (hL : L ≤ 15) (hused : usedSpace lens L = 2 ^ L) (syms : List (Nat × Nat)) {n : Nat}
    {cur : Option Sub} {f : Fill} (hsyms : syms <:+ sortSyms lens L) (hT : T < n) (hn : n ≤ L)
    (hf : f.Passed mk N L T n syms) (hcur : SubtableAt mk N L T n syms cur f) (hr : Remaining lens N L n syms)
    (hd : ∀ x, revBits n x < revBits n f.codeword → TableDecodes lens mk L T f.table cur x) (x : Nat) :
    ∃ last, TableDecodes lens mk L T (fillSub lens mk T syms cur f).table last x := by
  induction syms generalizing n cur f with
  | nil => exact absurd rfl (hf.complete.ne_nil hn)
  | cons p rest ih =>
    obtain ⟨s, l⟩ := p
    have hTl : T < l := Nat.lt_of_lt_of_le hT hr.head_ge
    have hf' := hf.widen hr
    have hcur' := hcur.widen hr hT hf.code
    obtain ⟨b, g, ho, hg, hb⟩ := openSub_spec hf' hcur' hr.widen hTl hL
    have hdg : ∀ x, revBits l x < revBits l g.codeword → TableDecodes lens mk L T g.table (some b) x := fun x hx => by
      rw [openSub_codeword ho] at hx
      exact openSub_decodes hf' hcur' hTl ho (hd x (revBits_lt_of_le hr.head_ge hf.code hx)) hx
    have hcode := hg.complete.begins hused hsyms
    simp only [fillSub, ho]
    split
    · next hones =>
      refine ⟨_, hb.placed_decodes hTl hg.code hcode hdg ?_⟩
      rw [hones]
      exact revBits_le_ones l x
    · next hne =>
      obtain ⟨hp, hs⟩ := hb.next hg hr.widen hTl hL hne
      obtain ⟨-, hrev⟩ := advanceCode_spec hg.code hne
      refine ih ((List.suffix_cons _ _).trans hsyms) hTl hr.head_le hp hs hr.tail fun x hx => ?_
      exact hb.placed_decodes hTl hg.code hcode hdg (Nat.le_of_lt_succ (hx.trans_eq hrev))

/-! ### The built table (41 R466) -/

/-- The width the table begins with: the least codeword length, or `T` if that is less (41 R458). -/
def firstWidth (lens : List Nat) (T L : Nat) : Nat := min T (((sortSyms lens L).head?.map Prod.snd).getD 1)

/-- The empty table a build begins with. -/
def startFill (lens : List Nat) (T L : Nat) : Fill :=
  ⟨List.replicate (2 ^ firstWidth lens T L) default, 2 ^ firstWidth lens T L, 0⟩

/-- The root table, and the symbols whose codewords are longer than `T` (41 R458). -/
def rootPhase (lens : List Nat) (mk : Nat → Nat → Entry) (T L : Nat) : Fill × List (Nat × Nat) :=
  fillMain mk T (sortSyms lens L) (firstWidth lens T L) (startFill lens T L)

theorem fillTable_eq (lens : List Nat) (mk : Nat → Nat → Entry) (T L : Nat) :
    fillTable lens mk T L = fillSub lens mk T (rootPhase lens mk T L).2 none (rootPhase lens mk T L).1 := rfl

theorem startFill_main (lens : List Nat) (T L : Nat) : (startFill lens T L).Main mk N (firstWidth lens T L) :=
  ⟨rfl, List.length_replicate, Nat.two_pow_pos _, fun j _ hj => absurd hj (by simp [startFill])⟩

theorem remaining_firstWidth (lens : List Nat) (T L : Nat) :
    Remaining lens lens.length L (firstWidth lens T L) (sortSyms lens L) :=
  remaining_sortSyms (Nat.le_refl _) fun _ hp =>
    (Nat.min_le_right _ _).trans (head_length_le (sortSyms_sorted lens L) hp)

theorem startFill_complete (T : Nat) (hused : usedSpace lens L = 2 ^ L) :
    CompleteFrom L (firstWidth lens T L) (startFill lens T L).codeword (sortSyms lens L) := by
  rw [CompleteFrom, spaceUpTo_sortSyms (Nat.le_refl L), hused, show (startFill lens T L).codeword = 0 from rfl,
    revBits_zero_right, Nat.zero_mul, Nat.zero_add]

/-- 41 R458: the root phase of a complete code decodes all bits, or leaves to the subtables those from the first codeword
of more than `T` bits on. -/
theorem rootPhase_cases (mk : Nat → Nat → Entry) (hT : T ≤ L) (hL : L ≤ 15) (hused : usedSpace lens L = 2 ^ L) :
    ((rootPhase lens mk T L).2 = [] ∧ ∀ x, RootDecodes lens mk L T (rootPhase lens mk T L).1.table x) ∨
    ((rootPhase lens mk T L).2 <:+ sortSyms lens L ∧ (rootPhase lens mk T L).1.Main mk lens.length T ∧
      Remaining lens lens.length L (T + 1) (rootPhase lens mk T L).2 ∧
      CompleteFrom L T (rootPhase lens mk T L).1.codeword (rootPhase lens mk T L).2 ∧
      ∀ x, revBits T x < revBits T (rootPhase lens mk T L).1.codeword →
        RootDecodes lens mk L T (rootPhase lens mk T L).1.table x) := by
  have hlen : firstWidth lens T L ≤ T := Nat.min_le_left _ _
  have hr := remaining_firstWidth lens T L
  have hc := startFill_complete T hused
  obtain hall | ⟨hne, hsuffix, hd⟩ := fillMain_decodes hT hL hused _ List.suffix_rfl hlen (startFill_main lens T L) hr hc
    fun x hx => absurd hx (by simp [startFill])
  · exact .inl hall
  · obtain ⟨hnil, -⟩ | ⟨hf, hr', hc'⟩ := fillMain_spec hT hL _ hlen (startFill_main (mk := mk) lens T L) hr hc
    · exact absurd hnil hne
    · exact .inr ⟨hsuffix, hf, hr', hc', hd⟩

/-- 41 R458 to R464: the table of a complete code decodes all bits, from its root or through a subtable. -/
theorem fillTable_decodes (mk : Nat → Nat → Entry) (hT : T ≤ L) (hL : L ≤ 15) (hused : usedSpace lens L = 2 ^ L)
    (x : Nat) : ∃ last, TableDecodes lens mk L T (fillTable lens mk T L).table last x := by
  rw [fillTable_eq]
  obtain ⟨hnil, hroot⟩ | ⟨hsuffix, hf, hr, hc, hroot⟩ := rootPhase_cases mk hT hL hused
  · rw [hnil]
    exact ⟨none, .inl (hroot x)⟩
  · generalize (rootPhase lens mk T L).1 = f at hf hc hroot ⊢
    generalize (rootPhase lens mk T L).2 = syms at hsuffix hr hc ⊢
    have hTL : T + 1 ≤ L := by
      obtain ⟨p, rest, rfl⟩ := List.exists_cons_of_ne_nil (hc.ne_nil hT)
      exact hr.head_ge.trans hr.head_le
    refine fillSub_decodes hL hused syms hsuffix (Nat.lt_succ_self T) hTL ⟨hf.exact, hf.size.ge, ?_, ?_, ?_⟩
      (.inr ⟨by simp, hf.code⟩) hr (fun x hx => .inl (hroot x (revBits_lt_of_le (Nat.le_succ T) hf.code hx))) x
    · exact hf.code.trans (Nat.pow_lt_pow_succ Nat.one_lt_two)
    · exact (completeFrom_iff_of_le hf.code (Nat.le_succ T) hTL).mpr hc
    · exact fun j hj hrev => .inl (hf.filled j hj hrev)

/-- The entry that a table holds for the bits `x` that begin with the codeword of symbol `s`, of `l` bits: in the root,
or behind the pointer of their root index (41 R466). -/
def Finds (mk : Nat → Nat → Entry) (T : Nat) (t : List Entry) (x s l : Nat) : Prop :=
  (l ≤ T ∧ t[x % 2 ^ T]? = some (mk s l)) ∨
    T < l ∧ ∃ start bits, t[x % 2 ^ T]? = some (pointerEntry start bits T) ∧ bits ≤ 15 ∧
      t[start + x / 2 ^ T % 2 ^ bits]? = some (mk s (l - T))

theorem TableDecodes.finds {t : List Entry} {cur : Option Sub} (h : TableDecodes lens mk L T t cur x) (hL : L ≤ 15) :
    ∃ s l, Begins lens L x s l ∧ Finds mk T t x s l := by
  obtain ⟨s, l, hx, hl, he⟩ | ⟨b, -, hb, -, -⟩ := h
  · exact ⟨s, l, hx, .inl ⟨hl, he⟩⟩
  · obtain ⟨s, l, hx, hl, he⟩ := hb.entry
    have hbits := hb.bits
    exact ⟨s, l, hx, .inr ⟨hl, b.start, b.bits, hb.pre ▸ hb.pointer, by omega, he⟩⟩

end

/-- A complete code uses the whole codespace at every width from `L` on (41 R467). -/
theorem usedSpace_of_complete {lens : List Nat} {L m : Nat} (h : Complete lens L) (hL : 1 ≤ L)
    (hlens : ∀ l ∈ lens, l ≤ L) (hm : L ≤ m) : usedSpace lens m = 2 ^ m := by
  induction m, hm using Nat.le_induction with
  | base => exact usedSpace_eq_pow h (maxLen_le hL) (Nat.le_refl L)
  | succ m hm ih =>
    have hnone : countLen lens (m + 1) = 0 := List.count_eq_zero.mpr fun hmem => by
      have := hlens _ hmem
      omega
    rw [usedSpace, ih, hnone, Nat.pow_succ]
    omega

/-- 41 R458: a complete code's table is the filled one, if it has room for it. -/
theorem buildTable_of_complete {lens : List Nat} {mk : Nat → Nat → Entry} {T L enough : Nat} {t : List Entry}
    (h : buildTable lens mk T L enough = .ok t) (hc : Complete lens L) :
    t = (fillTable lens mk T L).table ∧ t.length ≤ enough := by
  simp only [buildTable, show usedSpace lens (maxLen lens L) = 2 ^ maxLen lens L from hc, Nat.lt_irrefl, if_false] at h
  split at h <;> cases h
  next hroom => exact ⟨rfl, (fillTable_exact lens mk T L).trans_le hroom⟩

/-- The table of a complete code, its root at most 15 bits wide, holds the entry of every stream's symbol (41 R466). A
root wider than the longest codeword is filled as if codewords of its width were allowed. -/
theorem buildTable_finds {lens : List Nat} {mk : Nat → Nat → Entry} {T L enough : Nat} {t : List Entry}
    (h : buildTable lens mk T L enough = .ok t) (hc : Complete lens L) (hlens : ∀ l ∈ lens, l ≤ L) (hL1 : 1 ≤ L)
    (hL : L ≤ 15) (hT : T ≤ 15) (x : Nat) : ∃ s l, Begins lens L x s l ∧ Finds mk T t x s l := by
  have hsyms := sortSyms_eq_of_le hlens (Nat.le_max_left L T)
  obtain ⟨rfl, -⟩ := buildTable_of_complete h hc
  obtain ⟨last, hd⟩ := fillTable_decodes mk (Nat.le_max_right L T) (max_le hL hT)
    (usedSpace_of_complete hc hL1 hlens (Nat.le_max_left L T)) x
  rw [show fillTable lens mk T (max L T) = fillTable lens mk T L by rw [fillTable, fillTable, hsyms]] at hd
  obtain ⟨s, l, ⟨hmem, hcode⟩, hfinds⟩ := hd.finds (max_le hL hT)
  exact ⟨s, l, ⟨hsyms ▸ hmem, hcode⟩, hfinds⟩

/-- 41 R466: for bits that begin with a codeword, the table holds its symbol's entry, since they begin with no other. -/
theorem Begins.finds {lens : List Nat} {mk : Nat → Nat → Entry} {T L enough x s l : Nat} {t : List Entry}
    (hx : Begins lens L x s l) (h : buildTable lens mk T L enough = .ok t) (hc : Complete lens L)
    (hlens : ∀ l ∈ lens, l ≤ L) (hL1 : 1 ≤ L) (hL : L ≤ 15) (hT : T ≤ 15) : Finds mk T t x s l := by
  obtain ⟨s', l', hx', hfinds⟩ := buildTable_finds h hc hlens hL1 hL hT x
  obtain ⟨rfl, rfl⟩ := hx.unique hx'
  exact hfinds

end Sys2Proof.Machine

/-! PROOFS. A lookup in a built table answers the entry of the codeword at the cursor (41 R466, 43 R604). -/

namespace Sys2Proof.Machine
open Sys2Proof

/-! ### Codewords at the cursor (40 R402, 41 R466) -/

/-- A stream begins with a symbol's codeword if a peek that covers it does. -/
theorem Begins.streamHolds {lens : List Nat} {L s l n c : Nat} {inb : List Byte}
    (h : Begins lens L (peekBits inb c n) s l) (hn : l ≤ n) : StreamHolds inb c (symbolBits lens s) := by
  obtain ⟨hmem, hcode⟩ := h
  have hlen := getD_of_mem_sortSyms hmem
  have hword : peekBits inb c n % 2 ^ l = bitsValue (codewordBits l (canonCode lens s)) :=
    eq_bitsValue_of_revBits_eq (Nat.mod_lt _ (Nat.two_pow_pos l)) (by rw [revBits_mod, hcode])
  intro j hj
  rw [symbolBits_length, hlen] at hj
  rw [symbolBits, hlen, ← bitsValue_testBit, ← hword, Nat.testBit_mod_two_pow, peekBits_testBit, decide_eq_true hj,
    decide_eq_true (Nat.lt_of_lt_of_le hj hn), Bool.true_and, Bool.true_and]

/-- A codeword of a complete code fits its length. -/
theorem canonCode_lt {lens : List Nat} {L s l : Nat} (h : (s, l) ∈ sortSyms lens L) (hused : usedSpace lens L = 2 ^ L) :
    canonCode lens s < 2 ^ l := by
  obtain ⟨-, -, hl⟩ := mem_sortSyms_iff.mp h
  obtain ⟨before, after, hsplit, hspace⟩ := sortSyms_split h
  have hall := spaceUpTo_sortSyms (lens := lens) (Nat.le_refl L)
  rw [hused, hsplit, spaceUpTo_append, spaceUpTo_cons_of_le hl, hspace, ← Nat.add_assoc, ← Nat.add_one_mul] at hall
  refine Nat.le_of_mul_le_mul_right ?_ (Nat.two_pow_pos (L - l))
  rw [← Nat.pow_add, Nat.add_sub_cancel' hl, ← hall]
  exact Nat.le_add_right _ _

/-- Where the codeword of a symbol stands in the stream, every peek that covers it begins with it. -/
theorem begins_of_streamHolds {lens : List Nat} {L s l n c : Nat} {inb : List Byte}
    (h : StreamHolds inb c (symbolBits lens s)) (hmem : (s, l) ∈ sortSyms lens L) (hused : usedSpace lens L = 2 ^ L)
    (hn : l ≤ n) : Begins lens L (peekBits inb c n) s l := by
  rw [symbolBits, getD_of_mem_sortSyms hmem] at h
  exact ⟨hmem, revBits_peekBits h (canonCode_lt hmem hused) hn⟩

/-- The root index of the bits of a long peek. -/
theorem peekBits_mod {inb : List Byte} {c m n : Nat} (h : m ≤ n) : peekBits inb c n % 2 ^ m = peekBits inb c m := by
  rw [← Nat.add_sub_cancel' h, peekBits_add, Nat.add_mul_mod_self_left, Nat.mod_eq_of_lt (peekBits_lt inb c m)]

/-- The index behind the root of the bits of a long peek. -/
theorem peekBits_div {inb : List Byte} {c m n : Nat} (h : m ≤ n) :
    peekBits inb c n / 2 ^ m = peekBits inb (c + m) (n - m) := by
  conv_lhs => rw [← Nat.add_sub_cancel' h, peekBits_add]
  rw [Nat.add_mul_div_left _ _ (Nat.two_pow_pos m), Nat.div_eq_of_lt (peekBits_lt inb c m), Nat.zero_add]

/-! ### Lookups (43 R604) -/

/-- 43 R604: a lookup answers the entry that the table holds for the stream, behind a pointer with the root bits
removed. -/
theorem State.lookup_of_finds {mk : Nat → Nat → Entry} {T sym l : Nat} {t table : List Entry} {s : State}
    (h : Finds mk T t (peekBits s.inBuf s.c (T + 15)) sym l) (ht : table.take t.length = t) (hsize : t.length ≤ 2 ^ 15)
    (hT : T ≤ 15) (hl : l ≤ 15) (hmk : ∀ n, n ≤ 15 → (mk sym n).isPointer = false) (hin : s.c + l ≤ 8 * s.inN)
    (k : Entry → State → Fetched) :
    s.lookup table T k = if l ≤ T then k (mk sym l) s else k (mk sym (l - T)) (s.advance T) := by
  rw [Finds, peekBits_mod (Nat.le_add_right T 15)] at h
  obtain ⟨hlT, he⟩ | ⟨hlT, start, bits, hp, hbits, he⟩ := h
  · rw [if_pos hlT]
    exact State.lookup_of_direct (getD_of_take_eq ht he) (hmk l hl) k
  · rw [peekBits_div (Nat.le_add_right T 15), Nat.add_sub_cancel_left, peekBits_mod hbits] at he
    have hstart : start < 2 ^ 15 := by
      have := (List.getElem?_eq_some_iff.mp he).1
      omega
    rw [if_neg (by omega), State.lookup, State.peek, getD_of_take_eq ht hp, pointerEntry_isPointer hbits hT,
      pointerEntry_nbits hT, pointerEntry_subStart hstart hbits hT, pointerEntry_cwbits hbits hT]
    simp only [if_true, if_pos (show s.c + T ≤ 8 * s.inN by omega)]
    exact congrArg (k · (s.advance T)) (getD_of_take_eq ht he)

/-- Settles O18: the table holds the entry of every stream's symbol (`buildTable_finds`), and no stream begins with two
codewords (`Begins.unique`). -/
theorem builtTableDecodes : Obligations.BuiltTableDecodes := by
  intro lens mk T L enough t hT1 hT hL1 hL henough hlens hc hmk ht s table k htable
  have hused := usedSpace_of_complete hc hL1 hlens (Nat.le_refl L)
  obtain ⟨-, hsize⟩ := buildTable_of_complete ht hc
  constructor
  · intro sym l hs h1 hstream hin
    have hl := hlens l (List.mem_of_getElem? hs)
    have hx := begins_of_streamHolds hstream (mem_sortSyms_iff.mpr ⟨hs, h1, hl⟩) hused (show l ≤ T + 15 by omega)
    exact State.lookup_of_finds (hx.finds ht hc hlens hL1 hL (by omega)) htable (hsize.trans henough) (by omega)
      (by omega) (hmk sym) hin k
  · obtain ⟨sym, l, hx, -⟩ := buildTable_finds ht hc hlens hL1 hL (by omega) (peekBits s.inBuf s.c 15)
    obtain ⟨-, h1, hl⟩ := mem_sortSyms_iff.mp hx.mem
    refine ⟨sym, ⟨?_, hx.streamHolds (by omega)⟩, fun sym' ⟨h1', hstream⟩ => ?_⟩
    · rw [getD_of_mem_sortSyms hx.mem]
      exact h1
    · have hmem := mem_sortSyms_of_getD hlens h1'
      obtain ⟨-, -, hl'⟩ := mem_sortSyms_iff.mp hmem
      exact ((begins_of_streamHolds hstream hmem hused (by omega)).unique hx).1

end Sys2Proof.Machine

/-! PROOFS. Under any complete code a step runs the element that is encoded at the cursor (30 R323, 41 R466, 43 R604 to
R606). -/

namespace Sys2Proof.Machine
open Sys2Proof

/-! ### Precode elements (30 R306, R315) -/

theorem presym_layout_lt {i : Instr} {sym cw xw x : Nat} (h : i.layout = .coded .presym sym cw xw x) : sym < 19 := by
  cases i <;> cases h
  case cl cw n => exact Nat.lt_trans n.isLt (by decide)
  all_goals decide

theorem precodeEntry_cwbits (s : Nat) {n : Nat} (hn : n ≤ 15) : (makeEntry tmplPrecode s n).cwbits = BitVec.ofNat 4 n :=
  makeEntry_cwbits (by rw [tmplPrecode]; omega)

/-- A precode element with its extra bits behind the codeword is decoded from its symbol's entry. -/
theorem decodePresym_of_layout {i : Instr} {sym cw xw x c : Nat} {inb : List Byte}
    (h : i.layout = .coded .presym sym cw xw x) (hcw : cw ≤ 15) (hextra : StreamHolds inb (c + cw) (fieldBits xw x)) :
    decodePresym (makeEntry tmplPrecode sym cw) inb c = .ok i := by
  have hbits : (BitVec.ofNat 4 cw).toNat = cw := by rw [BitVec.toNat_ofNat]; omega
  rw [decodePresym, precodeEntry_presym (presym_layout_lt h) hcw, precodeEntry_cwbits sym hcw, hbits]
  cases i <;> cases h
  case cl cw n => simp [n.isLt]
  case clRepPrev cw x => simp [hextra.peekBits_field x.isLt]
  case clZero cw x => simp [hextra.peekBits_field x.isLt]
  case clZeroLong cw x => simp [hextra.peekBits_field x.isLt]

/-- Every precode symbol's entry stands in the root (41 R451). -/
theorem State.TableOf.precode_getD {s : State} {k : Codes} {sym l : Nat} (h : s.TableOf k .presym)
    (hacc : k.Accepted .presym) (hs : k.precode[sym]? = some l) (h1 : 1 ≤ l)
    (hword : StreamHolds s.inBuf s.c (symbolBits k.precode sym)) :
    l ≤ 7 ∧ s.precodeTable.getD (s.peek 7) default = makeEntry tmplPrecode sym l := by
  obtain ⟨t, ht, htable⟩ := h
  obtain ⟨-, hlens, hc⟩ := hacc
  have hl := hlens l (List.mem_of_getElem? hs)
  have hused := usedSpace_of_complete hc (by decide) hlens (Nat.le_refl 7)
  have hx := begins_of_streamHolds hword (mem_sortSyms_iff.mpr ⟨hs, h1, hl⟩) hused hl
  obtain ⟨-, he⟩ | ⟨hlong, -⟩ := hx.finds ht hc hlens (by decide) (by decide) (by decide)
  · refine ⟨hl, getD_of_take_eq htable ?_⟩
    rw [State.peek, ← peekBits_mod (Nat.le_refl 7)]
    exact he
  · exact absurd hl (Nat.not_le.mpr hlong)

/-! ### Lit/len and offset elements (43 R604) -/

theorem litlenEntry_isPointer (s : Nat) {n : Nat} (hn : n ≤ 15) : (litlenEntry s n).isPointer = false := by
  rcases Nat.lt_or_ge s 288 with h | h
  · exact litlenEntry_not_isPointer h hn
  · obtain ⟨-, -, -, hptr⟩ := litlenEntry_of_reserved (Nat.le_trans (by decide) h) hn
    exact Entry.not_isPointer_of_not_subtablePointer hptr

theorem accepted_length_le {k : Codes} {f : Format} {l : Nat} (h : k.Accepted f) (hl : l ∈ k.lens f) : l ≤ 15 := by
  cases f with
  | blkhdr | pcl | cmd => exact h.elim
  | presym =>
    obtain ⟨-, hlens, -⟩ := h
    exact (hlens l hl).trans (by decide)
  | litlen | offset =>
    obtain ⟨-, hlens, -⟩ := h
    exact hlens l hl

/-- The lookup of a lit/len symbol under the code in force. -/
theorem State.TableOf.lookup_litlen {s u : State} {k : Codes} {sym l : Nat} (h : s.TableOf k .litlen)
    (hacc : k.Accepted .litlen) (hs : k.litlen[sym]? = some l) (h1 : 1 ≤ l)
    (hword : StreamHolds u.inBuf u.c (symbolBits k.litlen sym)) (hin : u.c + l ≤ 8 * u.inN)
    (cont : Entry → State → Fetched) :
    u.lookup s.litlenTable s.litlenTablebits.toNat cont =
      if l ≤ s.litlenTablebits.toNat then cont (litlenEntry sym l) u
      else cont (litlenEntry sym (l - s.litlenTablebits.toNat)) (u.advance s.litlenTablebits.toNat) := by
  obtain ⟨t, ht, htable, hbits⟩ := h
  obtain ⟨-, hlens, hc⟩ := hacc
  rw [hbits]
  have hT : 1 ≤ litlenRootBits k.litlen := le_min (by decide) (one_le_maxLen _ _)
  exact (builtTableDecodes _ litlenEntry _ 15 _ t hT (litlenRootBits_le _) (by decide) (by decide) (by decide) hlens hc
    (fun sym _ hn => litlenEntry_isPointer sym hn) ht u _ cont htable).1 sym l hs h1 hword hin

/-- The lookup of an offset symbol under the code in force. -/
theorem State.TableOf.lookup_offset {s u : State} {k : Codes} {sym l : Nat} (h : s.TableOf k .offset)
    (hacc : k.Accepted .offset) (hs : k.offset[sym]? = some l) (h1 : 1 ≤ l)
    (hword : StreamHolds u.inBuf u.c (symbolBits k.offset sym)) (hin : u.c + l ≤ 8 * u.inN)
    (cont : Entry → State → Fetched) :
    u.lookup s.offsetTable 8 cont =
      if l ≤ 8 then cont (offsetEntry sym l) u else cont (offsetEntry sym (l - 8)) (u.advance 8) := by
  obtain ⟨t, ht, htable⟩ := h
  obtain ⟨-, hlens, hc⟩ := hacc
  exact (builtTableDecodes _ offsetEntry 8 15 _ t (by decide) (by decide) (by decide) (by decide) (by decide) hlens hc
    (fun _ _ hn => offsetEntry_not_isPointer hn) ht u _ cont htable).1 sym l hs h1 hword hin

/-- Both answers of a lookup are decoded to the element that stands there: the extra bits stand behind the whole codeword
of `l` bits, wherever the `cw` bits that are left of it begin. -/
theorem ofDecoded_of_split {decode : Entry → List Byte → Nat → Except DecodeError Instr} {mk : Nat → Nat → Entry}
    {u : State} {i : Instr} {T sym l cw xw x : Nat} (hcw : cw = if l ≤ T then l else l - T)
    (hextra : StreamHolds u.inBuf (u.c + l) (fieldBits xw x))
    (hdecode : ∀ c, StreamHolds u.inBuf (c + cw) (fieldBits xw x) → decode (mk sym cw) u.inBuf c = .ok i) :
    (if l ≤ T then Fetched.ofDecoded (decode (mk sym l) u.inBuf u.c) u
      else Fetched.ofDecoded (decode (mk sym (l - T)) (u.advance T).inBuf (u.advance T).c) (u.advance T)) =
      .instr i (if l ≤ T then u else u.advance T) := by
  split_ifs at hcw ⊢ with hl <;> subst hcw
  · exact Fetched.ofDecoded_of_ok _ (hdecode _ hextra)
  · refine Fetched.ofDecoded_of_ok _ (hdecode _ ?_)
    rwa [State.advance_c, show u.c + T + (l - T) = u.c + l by omega]

/-- Settles O22: the table in force holds the entry of the encoded codeword's symbol (O18), and the extra bits stand
behind the codeword. -/
theorem encodedElementRoundTrip : Obligations.EncodedElementRoundTrip := by
  intro s k i f sym cw xw x l hp hb hi hphase hacc htable hs h1 hcw hstream hin
  obtain ⟨hword, hextra⟩ := streamHolds_encode hi hstream
  rw [List.getD_eq_getElem?_getD, hs, Option.getD_some] at hextra
  have hl : l ≤ 15 := accepted_length_le hacc (List.mem_of_getElem? hs)
  have hcw15 : cw ≤ 15 := by split_ifs at hcw <;> omega
  refine step_of_fetch hp hb ?_
  obtain rfl | rfl | rfl := layout_format hi
  · obtain ⟨hl7, he⟩ := htable.precode_getD hacc hs h1 hword
    have hl7 : l ≤ s.rootWidth .presym := hl7
    rw [if_pos hl7] at hcw ⊢
    rw [fetch_of_codeLen hphase, he, ← hcw]
    exact Fetched.ofDecoded_of_ok _ (decodePresym_of_layout hi hcw15 (hcw ▸ hextra))
  · rw [fetch_of_body hphase, htable.lookup_litlen (u := s.refill) hacc hs h1 hword hin]
    exact ofDecoded_of_split (u := s.refill) hcw hextra fun c => decodeLitlen_of_layout hi hcw15
  · rw [← s.refillForOffset_inBuf, ← s.refillForOffset_c] at hword hextra
    rw [fetch_of_offset hphase, htable.lookup_offset hacc hs h1 hword
      (by rw [s.refillForOffset_c, State.inN, s.refillForOffset_inBuf]; exact hin)]
    exact ofDecoded_of_split hcw hextra fun c => decodeOffset_of_layout hi hcw15

end Sys2Proof.Machine

/-! PROOFS. The worked builds of the spec (41 R470). -/

namespace Sys2Proof.Machine
open Sys2Proof

/-- The entries that a build gives, none where it fails. -/
def entriesOf (b : Except BuildError (List Entry)) : List Entry := b.toOption.getD []

/-- Settles O17: each build, evaluated. -/
theorem workedBuilds : Obligations.WorkedBuilds :=
  ⟨⟨entriesOf (buildPrecodeTable [2, 1, 3, 3]), by decide +kernel⟩,
    ⟨entriesOf (buildLitlenTable fixedLitlenLens), by decide +kernel⟩,
    ⟨entriesOf (buildOffsetTable fixedOffsetLens), by decide +kernel⟩,
    ⟨entriesOf (buildOffsetTable [1, 2, 3, 4, 5, 6, 7, 8, 9, 10, 11, 12, 13, 14, 15, 15]), by decide +kernel⟩,
    ⟨entriesOf (buildLitlenTable (1 :: List.replicate 255 0 ++ [1])), by decide +kernel⟩⟩

end Sys2Proof.Machine

/-! PROOFS. Elements over bits that are there: two consumes are one, and a block header is read whole (40 R403, 42
R500). -/

namespace Sys2Proof.Machine
open Sys2Proof

/-! ### Consuming twice (40 R403, R425) -/

/-- Removing bits twice is removing them at once. -/
theorem Datapath.consume_consume (d : Datapath) (m n : Nat) : (d.consume m).consume n = d.consume (m + n) := by
  have hbuf : d.bitbuf >>> m >>> n = d.bitbuf >>> (m + n) := (BitVec.shiftRight_add ..).symm
  have hleft : d.bitsleft - BitVec.ofNat 8 m - BitVec.ofNat 8 n = d.bitsleft - BitVec.ofNat 8 (m + n) := by
    rw [BitVec.ofNat_add, sub_sub]
  simp only [Datapath.consume, hbuf, hleft]

theorem State.advance_advance (s : State) (m n : Nat) : (s.advance m).advance n = s.advance (m + n) := by
  simp only [State.advance, Nat.add_assoc, Datapath.consume_consume]

/-- Two consumes in a row, of bits that are there. -/
theorem State.consume_consume_of_le {s : State} {m n : Nat} (h : s.c + (m + n) ≤ 8 * s.inN) (k : State → Out) :
    (s.consume m fun u => u.consume n k) = k (s.advance (m + n)) := by
  rw [State.consume_of_le (by omega), State.consume_of_le (by rw [advance_c, inN_advance]; omega),
    State.advance_advance]

/-! ### Block headers (42 R500 to R502) -/

/-- The state in which a block's rule begins (42 R502). -/
def State.withHeader (s : State) (final : Bool) : State := { s.advance 3 with final := final }

theorem State.SameObject.refl (s : State) : s.SameObject s := ⟨rfl, rfl, rfl, rfl, rfl, rfl, rfl, rfl⟩

theorem State.withHeader_sameObject (s : State) (final : Bool) : s.SameObject (s.withHeader final) := .refl s

/-- With its 3 bits there, a block header sets `final` and goes on to the block's rule. -/
theorem State.blockHeader_of_le {s : State} (h : s.c + 3 ≤ 8 * s.inN) (final : Bool) (k : State → Out) :
    s.blockHeader final k = k (s.withHeader final) := by
  have hstate : State.advance { s.advance 1 with final := final } 2 = s.withHeader final :=
    congrArg (fun u : State => { u with final := final }) (s.advance_advance 1 2)
  rw [State.blockHeader, State.consume_of_le (by omega), State.consume_of_le, hstate]
  show s.c + 1 + 2 ≤ 8 * s.inN
  omega

/-! ### Ends that leave the object (60 R805) -/

/-- The command ends with `r`, and the object is that of `s`. -/
def EndsWithObject (s : State) (r : Result) (o : Out) : Prop :=
  ∃ t, o = .next t ∧ State.EndedWith r t ∧ s.SameObject t

/-- A consume that is cut short leaves the object, and so does what ends later without having touched it. -/
theorem State.consume_endsWithObject {s u : State} {n : Nat} {k : State → Out} (hu : s.SameObject u)
    (hk : u.c + n ≤ 8 * u.inN → EndsWithObject s .badData (k (u.advance n))) :
    EndsWithObject s .badData (u.consume n k) := by
  obtain ⟨-, h⟩ | ⟨hle, h⟩ := u.consume_cases n k <;> rw [h]
  · exact ⟨_, rfl, u.raise_ended .overread, hu⟩
  · exact hk hle

/-- So do a block header that is cut short, and a block's rule that leaves it. -/
theorem State.blockHeader_endsWithObject {s : State} {final : Bool} {k : State → Out}
    (hk : s.c + 3 ≤ 8 * s.inN → EndsWithObject s .badData (k (s.withHeader final))) :
    EndsWithObject s .badData (s.blockHeader final k) := by
  by_cases h : s.c + 3 ≤ 8 * s.inN
  · rw [State.blockHeader_of_le h]
    exact hk h
  · have h1 : s.SameObject { s.advance 1 with final := final } := .refl s
    exact State.consume_endsWithObject (.refl s) fun _ => State.consume_endsWithObject h1 fun h3 => absurd h3 h

/-- Settles O28: after its 3 bits the rule of BTYPE 3 is a raise. -/
theorem reservedBlockIsBadData : Obligations.ReservedBlockIsBadData := by
  intro s final h
  have hexec : exec (.blockReserved final) s = .next ((s.withHeader final).raise .badBlockType) :=
    State.blockHeader_of_le h final _
  exact ⟨_, hexec, State.raise_ended _ _, rfl, rfl, rfl, State.raise_sameObject _ _⟩

/-! ### Counts of a dynamic header (42 R515 to R518) -/

/-- With their 14 bits there, the three counts are set and the flag is cleared. -/
theorem State.dynamicBlock_of_le {s : State} (h : s.c + 14 ≤ 8 * s.inN) (hlit hdist : BitVec 5) (hclen : BitVec 4) :
    s.dynamicBlock hlit hdist hclen = .next { s with
      c := s.c + 14, dp := (((s.dp.refill s.inBuf).consume 5).consume 5).consume 4,
      nlit := BitVec.ofNat 9 (hlit.toNat + 257), noff := BitVec.ofNat 6 (hdist.toNat + 1),
      ncl := BitVec.ofNat 5 (hclen.toNat + 4), staticCodesLoaded := false, phase := .precodeLen, index := 0 } := by
  have h5 : s.c + 5 ≤ 8 * s.inN := by omega
  have h10 : s.c + 5 + 5 ≤ 8 * s.inN := by omega
  have h14 : s.c + 5 + 5 + 4 ≤ 8 * s.inN := by omega
  rw [State.dynamicBlock, State.consume_of_le, State.consume_of_le, State.consume_of_le]
  · simp only [State.advance, State.refill, Nat.add_assoc]
  · exact h14
  · exact h10
  · exact h5

/-- Cut short, they leave the object, the flag too. -/
theorem State.dynamicBlock_of_lt {s u : State} (h : 8 * u.inN < u.c + 14) (hu : s.SameObject u) (hlit hdist : BitVec 5)
    (hclen : BitVec 4) : EndsWithObject s .badData (u.dynamicBlock hlit hdist hclen) :=
  State.consume_endsWithObject hu fun _ => State.consume_endsWithObject hu fun _ =>
    State.consume_endsWithObject hu fun h14 => by
      have h14 : u.c + 5 + 5 + 4 ≤ 8 * u.inN := h14
      omega

/-- Settles O27: the three counts are read one after another behind the header, and only then is the flag cleared. -/
theorem dynamicHeaderCounts : Obligations.DynamicHeaderCounts := by
  refine fun s final hlit hdist hclen => ⟨fun h => ?_, fun h => ?_⟩
  · have hrest : (s.withHeader final).c + 14 ≤ 8 * (s.withHeader final).inN := h
    exact ⟨_, (State.blockHeader_of_le (by omega) final _).trans (State.dynamicBlock_of_le hrest hlit hdist hclen)⟩
  · exact State.blockHeader_endsWithObject fun _ =>
      State.dynamicBlock_of_lt h (s.withHeader_sameObject final) hlit hdist hclen

end Sys2Proof.Machine

/-! PROOFS. Stored blocks: the two counts behind the alignment, the four checks, and the copy (42 R504 to R514). -/

namespace Sys2Proof.Machine
open Sys2Proof

/-! ### The two counts (42 R505 to R507) -/

/-- The 16-bit little-endian field at byte `a` of IN. -/
def halfAt (inb : List Byte) (a : Nat) : BitVec 16 := (inRead inb (a + 1)).append (inRead inb a)

theorem halfAt_toNat (inb : List Byte) (a : Nat) :
    (halfAt inb a).toNat = (inRead inb a).toNat + 256 * (inRead inb (a + 1)).toNat := by
  have hlo := (inRead inb a).isLt
  rw [halfAt, show (inRead inb (a + 1)).append (inRead inb a) = inRead inb (a + 1) ++ inRead inb a from rfl,
    BitVec.toNat_append, ← Nat.shiftLeft_add_eq_or_of_lt hlo, Nat.shiftLeft_eq]
  omega

/-- 42 R507: two counts are complements of each other where they add up to all ones. -/
theorem eq_complement_iff (x y : BitVec 16) : x = y ^^^ 0xFFFF ↔ x.toNat + y.toNat = 65535 := by
  have hnot : y ^^^ 0xFFFF = ~~~y := BitVec.xor_allOnes
  rw [hnot, ← BitVec.toNat_inj, BitVec.toNat_not]
  have := y.isLt
  omega

theorem State.readHalf_of_aligned {s : State} {a : Nat} (h : s.c = 8 * a) (k : BitVec 16 → State → Out) :
    s.readHalf k = k (halfAt s.inBuf a) s.nextByte.nextByte := by
  have hlo : s.thisByte = inRead s.inBuf a := by rw [State.thisByte, h, Nat.mul_div_cancel_left _ (by decide)]
  have hhi : s.nextByte.thisByte = inRead s.inBuf (a + 1) := by
    rw [State.thisByte, nextByte_c, nextByte_inBuf, h, Nat.add_div_right _ (by decide),
      Nat.mul_div_cancel_left _ (by decide)]
  rw [State.readHalf, hlo, hhi, halfAt]

/-- The state behind LEN and NLEN. -/
def State.behindCounts (s : State) : State := s.alignToByte.nextByte.nextByte.nextByte.nextByte

theorem State.behindCounts_frame (s : State) :
    s.behindCounts = { s with c := 8 * ((s.c + 7) / 8 + 4), dp := s.behindCounts.dp } := by
  simp only [State.behindCounts, State.nextByte, State.alignToByte, State.mk.injEq, and_self, true_and, and_true]
  omega

/-- 42 R506: with fewer than 4 bytes behind the alignment there are no counts. -/
theorem State.storedBlock_of_lt {s : State} (h : s.inN < (s.c + 7) / 8 + 4) :
    s.storedBlock = .next (s.alignToByte.raise .storedHeaderTruncated) := by
  rw [State.storedBlock]
  exact if_pos (by rw [alignToByte_c, inN_alignToByte]; omega)

/-- With 4 bytes there, they are LEN and NLEN. -/
theorem State.storedBlock_of_le {s : State} (h : (s.c + 7) / 8 + 4 ≤ s.inN) :
    s.storedBlock =
      s.behindCounts.storedData (halfAt s.inBuf ((s.c + 7) / 8)) (halfAt s.inBuf ((s.c + 7) / 8 + 2)) := by
  have hbehind : s.alignToByte.nextByte.nextByte.c = 8 * ((s.c + 7) / 8 + 2) := by
    rw [nextByte_c, nextByte_c, alignToByte_c]
    omega
  rw [State.storedBlock]
  refine (if_neg (by rw [alignToByte_c, inN_alignToByte]; omega)).trans ?_
  rw [State.readHalf_of_aligned s.alignToByte_c, State.readHalf_of_aligned hbehind]
  rfl

/-! ### The three checks on the counts (42 R507 to R509) -/

section
variable {s : State} {len nlen : BitVec 16}

theorem State.storedData_of_ne (h : len.toNat + nlen.toNat ≠ 65535) :
    s.storedData len nlen = .next (s.raise .lenNlen) :=
  if_pos (mt (eq_complement_iff _ _).mp h)

theorem State.storedData_of_complement (h : len.toNat + nlen.toNat = 65535) :
    s.storedData len nlen =
      if s.inN - s.c / 8 < len.toNat then .next (s.raise .storedDataTruncated)
      else if s.outN.toNat - s.outNext.toNat < len.toNat then .next (s.raise .storedSpace)
      else .next (State.copyStored len.toNat s).endBlock :=
  if_neg (not_not.mpr ((eq_complement_iff _ _).mpr h))

end

/-! ### The copy (42 R514) -/

theorem State.copyStored_outNext (n : Nat) (s : State) :
    (State.copyStored n s).outNext = s.outNext + BitVec.ofNat 64 n := by
  induction n generalizing s with
  | zero => exact (BitVec.add_zero _).symm
  | succ n ih =>
    rw [State.copyStored, ih, nextByte_outNext, emit_outNext, Nat.add_comm n, BitVec.ofNat_add, BitVec.add_assoc]
    rfl

/-- The copied bytes stand behind one another from `out_next` on, and the others stay. -/
theorem State.copyStored_read {n : Nat} {s : State} (room : n ≤ s.outN.toNat - s.outNext.toNat) (a : Nat) :
    Memory.read (State.copyStored n s).out a =
      if s.outNext.toNat ≤ a ∧ a < s.outNext.toNat + n then some (inRead s.inBuf (s.c / 8 + (a - s.outNext.toNat)))
      else Memory.read s.out a := by
  induction n generalizing s with
  | zero => rw [if_neg (by omega)]; rfl
  | succ n ih =>
    have hnext := emit_outNext_toNat s.thisByte (show s.outNext.toNat < s.outN.toNat by omega)
    rw [State.copyStored, ih (by rw [nextByte_outN, nextByte_outNext, emit_outN, hnext]; omega), nextByte_outNext,
      hnext, nextByte_inBuf, emit_inBuf, nextByte_out, emit_read, nextByte_c, emit_c, Nat.add_div_right _ (by decide)]
    rcases Nat.lt_trichotomy a s.outNext.toNat with ha | rfl | ha
    · rw [if_neg (by omega), if_neg (by omega), if_neg (by omega)]
    · rw [if_neg (by omega), if_pos rfl, if_pos (by omega), Nat.sub_self]
      rfl
    · by_cases hlt : a < s.outNext.toNat + (n + 1)
      · rw [if_pos (by omega), if_pos (by omega)]
        congr 2
        omega
      · rw [if_neg (by omega), if_neg (by omega), if_neg (by omega)]

/-! ### The whole block -/

section
variable {s : State} {final : Bool} {p : Nat}

/-- The state in which the data of a stored block begins, at byte `p + 4`. -/
def State.atData (s : State) (final : Bool) (p : Nat) (d : Datapath) : State :=
  { s with final := final, c := 8 * (p + 4), dp := d }

theorem State.atData_byte (d : Datapath) : (s.atData final p d).c / 8 = p + 4 :=
  Nat.mul_div_cancel_left _ (by decide)

/-- With its header and 4 bytes there, a stored block is its two counts' checks and the copy. -/
theorem exec_blockStored_of_le (h : s.c + 3 ≤ 8 * s.inN) (hp : p = (s.c + 3 + 7) / 8) (hcounts : p + 4 ≤ s.inN) :
    ∃ d, exec (.blockStored final) s =
      (s.atData final p d).storedData (halfAt s.inBuf p) (halfAt s.inBuf (p + 2)) := by
  subst hp
  refine ⟨(s.withHeader final).behindCounts.dp, ?_⟩
  have hframe : (s.withHeader final).behindCounts = s.atData final ((s.c + 3 + 7) / 8) _ :=
    (s.withHeader final).behindCounts_frame
  rw [← hframe]
  exact (State.blockHeader_of_le h final _).trans (State.storedBlock_of_le hcounts)

/-- With complementary counts, the two checks of the data and the copy are left. -/
theorem exec_blockStored_of_complement (h : s.c + 3 ≤ 8 * s.inN) (hp : p = (s.c + 3 + 7) / 8)
    (hcounts : p + 4 ≤ s.inN)
    (hcompl : (halfAt s.inBuf p).toNat + (halfAt s.inBuf (p + 2)).toNat = 65535) :
    ∃ d, exec (.blockStored final) s =
      if s.inN - (p + 4) < (halfAt s.inBuf p).toNat then .next ((s.atData final p d).raise .storedDataTruncated)
      else if s.outN.toNat - s.outNext.toNat < (halfAt s.inBuf p).toNat then
        .next ((s.atData final p d).raise .storedSpace)
      else .next (State.copyStored (halfAt s.inBuf p).toNat (s.atData final p d)).endBlock := by
  obtain ⟨d, hexec⟩ := exec_blockStored_of_le (final := final) h hp hcounts
  rw [State.storedData_of_complement hcompl, s.atData_byte d] at hexec
  exact ⟨d, hexec⟩

/-- What the copy of `n` data bytes leaves. -/
theorem State.copyStored_atData (d : Datapath) (n : Nat) :
    State.copyStored n (s.atData final p d) =
      { s with
        final := final, c := 8 * (p + 4 + n), dp := (State.copyStored n (s.atData final p d)).dp,
        out := (State.copyStored n (s.atData final p d)).out, outNext := s.outNext + BitVec.ofNat 64 n } := by
  rw [State.copyStored_frame, State.copyStored_outNext, Nat.mul_add 8 (p + 4)]
  rfl

end

/-- Settles O24: the three checks pass, so the block is the copy (`State.copyStored_read`) and what follows a block. -/
theorem storedBlockCopies : Obligations.StoredBlockCopies := by
  intro s final p len nlen hp hlen hnlen hcounts hcompl hin hout
  rw [← halfAt_toNat] at hlen hnlen
  subst hlen hnlen
  obtain ⟨d, hexec⟩ := exec_blockStored_of_complement (final := final) (by omega) hp hcounts hcompl
  rw [if_neg (by omega), if_neg (Nat.not_lt.mpr hout)] at hexec
  have hread := State.copyStored_read (s := s.atData final p d) hout
  rw [s.atData_byte d] at hread
  refine ⟨_, _, _, State.copyStored_atData d _, hexec.trans ?_, fun k hk => ?_, fun a ha => ?_⟩
  · rw [State.copyStored_frame]
    rfl
  · have hk' : s.outNext.toNat + k < s.outNext.toNat + (halfAt s.inBuf p).toNat := Nat.add_lt_add_left hk _
    refine (hread _).trans ((if_pos ⟨Nat.le_add_right _ _, hk'⟩).trans ?_)
    rw [show s.outNext.toNat + k - (s.atData final p d).outNext.toNat = k from Nat.add_sub_cancel_left ..]
    rfl
  · refine (hread a).trans (if_neg fun ⟨hge, hlt⟩ => ?_)
    exact ha.elim (Nat.not_lt.mpr hge) (Nat.not_le.mpr hlt)

/-- Settles O25: each check is made behind the ones before it, and none has written anything. -/
theorem storedBlockChecks : Obligations.StoredBlockChecks := by
  intro s final p len nlen h hp hlen hnlen
  rw [← halfAt_toNat] at hlen hnlen
  subst hlen hnlen
  refine ⟨fun hshort => ?_, fun hcounts hne => ?_, fun hcounts hcompl hshort => ?_, fun hcompl hin hfull => ?_⟩
  · subst hp
    have hexec : exec (.blockStored final) s = _ :=
      (State.blockHeader_of_le h final _).trans (State.storedBlock_of_lt hshort)
    exact ⟨_, hexec, State.raise_ended _ _, rfl, rfl, State.raise_sameObject _ _⟩
  · obtain ⟨d, hexec⟩ := exec_blockStored_of_le (final := final) h hp hcounts
    rw [State.storedData_of_ne hne] at hexec
    exact ⟨_, hexec, State.raise_ended _ _, rfl, rfl, State.raise_sameObject _ _⟩
  · obtain ⟨d, hexec⟩ := exec_blockStored_of_complement (final := final) h hp hcounts hcompl
    rw [if_pos (by omega)] at hexec
    exact ⟨_, hexec, State.raise_ended _ _, rfl, rfl, State.raise_sameObject _ _⟩
  · obtain ⟨d, hexec⟩ := exec_blockStored_of_complement (final := final) h hp (by omega) hcompl
    rw [if_neg (by omega), if_pos hfull] at hexec
    exact ⟨_, hexec, State.raise_ended _ _, rfl, rfl, State.raise_sameObject _ _⟩

end Sys2Proof.Machine

/-! PROOFS. Builds over the state: what follows one that gives a table, and what one that fails leaves (41 R469, 42
R521, R529). -/

namespace Sys2Proof.Machine
open Sys2Proof

/-! ### Builds that give a table -/

theorem State.buildPrecode_of_ok {s : State} {t : List Entry} (h : buildPrecodeTable s.precodeLengths = .ok t)
    (k : State → Out) : s.buildPrecode k = k (s.withPrecode t) := by
  rw [State.buildPrecode, h]

theorem State.buildOffset_of_ok {s : State} {t : List Entry} (h : buildOffsetTable s.offsetLengths = .ok t)
    (k : State → Out) : s.buildOffset k = k (s.withOffset t) := by
  rw [State.buildOffset, h]

theorem State.buildLitlen_of_ok {s : State} {t : List Entry} (h : buildLitlenTable s.litlenLengths = .ok t)
    (k : State → Out) : s.buildLitlen k = k (s.withLitlen t) := by
  rw [State.buildLitlen, h]

/-- Both tables of 42 R529, one after the other. -/
theorem State.buildCodes_of_ok {s : State} {t u : List Entry} (ht : buildOffsetTable s.offsetLengths = .ok t)
    (hu : buildLitlenTable s.litlenLengths = .ok u) (k : State → Out) :
    s.buildCodes k = k ((s.withOffset t).withLitlen u) :=
  (State.buildOffset_of_ok ht _).trans (State.buildLitlen_of_ok (s := s.withOffset t) hu k)

/-! ### Builds that fail -/

/-- 41 R469: what a failed precode build writes. -/
theorem State.failPrecode_writes (s : State) (e : Cause) : ∃ table syms,
    s.failPrecode e = .next (State.raise { s with precodeTable := table, sortedSyms := syms } e) :=
  ⟨_, _, rfl⟩

/-- 41 R469: what a failed offset build writes. -/
theorem State.failOffset_writes (s : State) (e : Cause) : ∃ table syms,
    s.failOffset e = .next (State.raise { s with offsetTable := table, sortedSyms := syms } e) :=
  ⟨_, _, rfl⟩

/-- 41 R469, R452: what a failed lit/len build writes. -/
theorem State.failLitlen_writes (s : State) (e : Cause) : ∃ table bits syms,
    s.failLitlen e =
      .next (State.raise { s with litlenTable := table, litlenTablebits := bits, sortedSyms := syms } e) :=
  ⟨_, _, _, rfl⟩

/-- A precode build that fails keeps the lengths it was made from. -/
theorem State.buildPrecode_of_error {s : State} (h : buildPrecodeTable s.precodeLengths = .error .overfull ∨
    buildPrecodeTable s.precodeLengths = .error .incomplete) (k : State → Out) :
    ∃ u, s.buildPrecode k = .next u ∧ State.EndedWith .badData u ∧ u.precodeLens = s.precodeLens := by
  obtain h | h := h <;> rw [State.buildPrecode, h]
  · obtain ⟨table, syms, hfail⟩ := s.failPrecode_writes .overfullCode
    exact ⟨_, hfail, State.raise_ended _ .overfullCode, rfl⟩
  · obtain ⟨table, syms, hfail⟩ := s.failPrecode_writes .incompleteCode
    exact ⟨_, hfail, State.raise_ended _ .incompleteCode, rfl⟩

/-- An offset build that fails ends both builds: the lit/len table and its width stay. -/
theorem State.buildCodes_of_offset_error {s : State} (h : buildOffsetTable s.offsetLengths = .error .overfull ∨
    buildOffsetTable s.offsetLengths = .error .incomplete) (k : State → Out) :
    ∃ u, s.buildCodes k = .next u ∧ State.EndedWith .badData u ∧ u.litlenTable = s.litlenTable ∧
      u.litlenTablebits = s.litlenTablebits := by
  obtain h | h := h <;> rw [State.buildCodes, State.buildOffset, h]
  · obtain ⟨table, syms, hfail⟩ := s.failOffset_writes .overfullCode
    exact ⟨_, hfail, State.raise_ended _ .overfullCode, rfl, rfl⟩
  · obtain ⟨table, syms, hfail⟩ := s.failOffset_writes .incompleteCode
    exact ⟨_, hfail, State.raise_ended _ .incompleteCode, rfl, rfl⟩

/-- A lit/len build that fails comes behind the offset table, which stays. -/
theorem State.buildCodes_of_litlen_error {s : State} {t : List Entry} (ht : buildOffsetTable s.offsetLengths = .ok t)
    (h : buildLitlenTable s.litlenLengths = .error .overfull ∨ buildLitlenTable s.litlenLengths = .error .incomplete)
    (k : State → Out) :
    ∃ u, s.buildCodes k = .next u ∧ State.EndedWith .badData u ∧ u.offsetTable = overlay t s.offsetTable := by
  rw [State.buildCodes, State.buildOffset_of_ok ht]
  rw [← s.withOffset_litlenLengths t] at h
  obtain h | h := h <;> rw [State.buildLitlen, h]
  · obtain ⟨table, bits, syms, hfail⟩ := (s.withOffset t).failLitlen_writes .overfullCode
    exact ⟨_, hfail, State.raise_ended _ .overfullCode, rfl⟩
  · obtain ⟨table, bits, syms, hfail⟩ := (s.withOffset t).failLitlen_writes .incompleteCode
    exact ⟨_, hfail, State.raise_ended _ .incompleteCode, rfl⟩

end Sys2Proof.Machine

/-! PROOFS. A fixed block loads its tables once (42 R510, R511). -/

namespace Sys2Proof.Machine
open Sys2Proof

/-- The rest of an array behind the cells that are installed stays. -/
theorem overlay_drop {α : Type} {new : List α} {n : Nat} (old : List α) (h : new.length = n) :
    (overlay new old).drop n = old.drop n := by
  subst h
  exact List.drop_left

/-- The fixed lengths as `lens` holds them (42 R511). -/
theorem fixedLens_eq : (fixedLitlenLens ++ fixedOffsetLens).map (BitVec.ofNat 4) =
    List.replicate 144 8 ++ List.replicate 112 9 ++ List.replicate 24 7 ++ List.replicate 8 8 ++
      List.replicate 32 5 := by
  decide +kernel

/-- The two builds of 42 R511 do not fail. -/
theorem State.buildCodes_fixedLengths (s : State) (k : State → Out) :
    ∃ t u, buildOffsetTable s.fixedLengths.offsetLengths = .ok t ∧
      buildLitlenTable (s.fixedLengths.withOffset t).litlenLengths = .ok u ∧
      s.fixedLengths.buildCodes k = k ((s.fixedLengths.withOffset t).withLitlen u) := by
  have ht := fixedOffsetTable_eq
  have hu := fixedLitlenTable_eq
  rw [← s.fixedLengths_offsetLengths] at ht
  rw [← s.fixedLengths_litlenLengths] at hu
  exact ⟨_, _, ht, hu, State.buildCodes_of_ok ht hu k⟩

/-- Settles O26: where the flag is 0 both builds of the fixed code give their tables, and they are installed over the
first cells of `lens` and of the tables. -/
theorem fixedBlockLoadsOnce : Obligations.FixedBlockLoadsOnce := by
  intro s final h
  have hexec : exec (.blockFixed final) s = (s.withHeader final).fixedBlock := State.blockHeader_of_le h final _
  refine ⟨fun hflag => ?_, fun hflag => ?_⟩
  · rw [hexec]
    exact if_pos hflag
  · obtain ⟨t, u, ht, hu, hbuild⟩ := (s.withHeader final).buildCodes_fixedLengths
      fun s1 => .next { s1 with staticCodesLoaded := true, phase := .body }
    have hfixed : (s.withHeader final).fixedBlock = _ := (if_neg (by simp [State.withHeader, hflag])).trans hbuild
    have hloaded := State.fixedLoaded_of_builds ht hu
    refine ⟨_, hexec.trans hfixed, ?_, hloaded, ?_, ?_, ?_, ?_⟩
    · obtain ⟨-, -, hbits⟩ := hloaded
      rw [← hbits]
      rfl
    · exact (s.withHeader final).fixedLengths_lens_take.trans fixedLens_eq
    · exact overlay_drop s.lens fixedLens_length
    · rw [State.fixedLengths_offsetLengths] at ht
      exact overlay_drop s.offsetTable (fixedOffsetTable_length ht)
    · rw [State.withOffset_litlenLengths, State.fixedLengths_litlenLengths] at hu
      exact overlay_drop s.litlenTable (fixedLitlenTable_length hu)

end Sys2Proof.Machine

/-! PROOFS. A code with no codeword longer than the root width takes its root table only: the precode (41 R451, R465,
42 R521). -/

namespace Sys2Proof.Machine
open Sys2Proof

section
variable {lens : List Nat} {T : Nat} {mk : Nat → Nat → Entry}

/-- 41 R458, R460: the root phase leaves a table of `2 ^ T` entries. -/
theorem rootPhase_curEnd (lens : List Nat) (mk : Nat → Nat → Entry) (T L : Nat) :
    (rootPhase lens mk T L).1.curEnd = 2 ^ T :=
  (fillMain_root mk _ (Nat.min_le_left T _) rfl (sortSyms_sorted lens L) (remaining_firstWidth lens T L).ge).1

/-- Without codewords of more than `T` bits the root phase leaves nothing to the subtables. -/
theorem fillTable_curEnd (mk : Nat → Nat → Entry) (hT : T ≤ 15) (hused : usedSpace lens T = 2 ^ T) :
    (fillTable lens mk T T).curEnd = 2 ^ T := by
  rw [fillTable_eq]
  obtain ⟨hnil, -⟩ | ⟨-, -, hr, hc, -⟩ := rootPhase_cases mk (Nat.le_refl T) hT hused
  · rw [hnil]
    exact rootPhase_curEnd lens mk T T
  · obtain ⟨p, rest, hrest⟩ := List.exists_cons_of_ne_nil (hc.ne_nil (Nat.le_refl T))
    rw [hrest] at hr
    exact absurd (hr.head_ge.trans hr.head_le) (Nat.not_succ_le_self T)

/-- A build of such a code needs no more than the root table, and gives all of it. -/
theorem buildTable_root (hT1 : 1 ≤ T) (hT : T ≤ 15) :
    buildTable lens mk T T (2 ^ T) ≠ .error .overflow ∧
      ∀ t, buildTable lens mk T T (2 ^ T) = .ok t → t.length = 2 ^ T := by
  rcases Nat.lt_trichotomy (usedSpace lens (maxLen lens T)) (2 ^ maxLen lens T) with hlt | heq | hgt
  · rw [buildTable_of_incomplete hlt]
    split_ifs
    · exact ⟨nofun, fun t ht => Except.ok.inj ht ▸ List.length_replicate⟩
    · exact ⟨nofun, fun t ht => Except.ok.inj ht ▸ List.length_replicate⟩
    · exact ⟨nofun, nofun⟩
  · have hcurEnd := fillTable_curEnd mk hT (usedSpace_eq_pow heq (maxLen_le hT1) (Nat.le_refl T))
    have hlen : (fillTable lens mk T T).table.length = 2 ^ T := (fillTable_exact lens mk T T).trans hcurEnd
    have hbuild : buildTable lens mk T T (2 ^ T) = .ok (fillTable lens mk T T).table := by
      simp [buildTable, heq, hcurEnd]
    rw [hbuild]
    exact ⟨nofun, fun t ht => Except.ok.inj ht ▸ hlen⟩
  · rw [buildTable_overfull_iff.mpr hgt]
    exact ⟨nofun, nofun⟩

end

/-- A precode entry has no flag (30 R306). -/
theorem precodeEntry_isPointer (s : Nat) {n : Nat} (hn : n ≤ 15) :
    (makeEntry tmplPrecode s n).isPointer = false :=
  Entry.not_isPointer_of_not_exceptional
    (makeEntry_exceptional hn fun m hm => by rw [tmplPrecode, Bool.toNat_false]; omega)

/-- Settles O16: no precode length is over the root width of 7 (`buildTable_root`), so no index of the root needs a
subtable (`buildPrecodeTable_resolves`). -/
theorem precodeNeverNeedsSubtables : Obligations.PrecodeNeverNeedsSubtables := by
  intro lens hlen _
  obtain ⟨hroom, hlength⟩ :=
    buildTable_root (lens := lens) (mk := makeEntry tmplPrecode) (T := 7) (by decide) (by decide)
  refine ⟨hroom, fun t ht => ⟨hlength t ht, fun e he => ?_⟩⟩
  obtain ⟨j, hj, rfl⟩ := List.mem_iff_getElem.mp he
  have h128 := hlength t ht
  obtain ⟨sym, n, -, hn, hget⟩ | ⟨start, bits, -, hstart, -, hsub⟩ :=
    buildPrecodeTable_resolves ht hlen (h128 ▸ hj)
  · obtain ⟨_, hentry⟩ := List.getElem?_eq_some_iff.mp hget
    rw [hentry]
    exact precodeEntry_isPointer sym hn
  · have hlt := (hsub 0 (Nat.two_pow_pos _)).lt
    omega

end Sys2Proof.Machine

/-! PROOFS. Precode lengths and the code lengths of a dynamic header (42 R520 to R529). -/

namespace Sys2Proof.Machine
open Sys2Proof

/-! ### Precode lengths (42 R520, R521) -/

/-- No two indices name the same precode symbol (30 R314). -/
theorem permAt_inj {i j : Nat} (hi : i < 19) (hj : j < 19) : permAt i = permAt j ↔ i = j := by
  have hnodup : perm.Nodup := by decide
  rw [permAt, permAt, List.getD_eq_getElem _ _ hi, List.getD_eq_getElem _ _ hj]
  exact hnodup.getElem_inj_iff

theorem permAt_lt {i : Nat} (hi : i < 19) : permAt i < 19 := by
  have hall : ∀ x ∈ perm, x < 19 := by decide
  rw [permAt, List.getD_eq_getElem _ _ hi]
  exact hall _ (List.getElem_mem _)

/-- Writing the length of one precode symbol leaves those of the others. -/
theorem getD_set_permAt {pl : List (BitVec 3)} (hpl : pl.length = 19) {i j : Nat} (hi : i < 19) (hj : j < 19)
    (l : BitVec 3) : (pl.set (permAt i) l).getD (permAt j) 0 = if j = i then l else pl.getD (permAt j) 0 := by
  rw [List.getD_eq_getElem?_getD, List.getElem?_set]
  by_cases h : j = i
  · subst h
    rw [if_pos rfl, if_pos (hpl ▸ permAt_lt hj), if_pos rfl, Option.getD_some]
  · rw [if_neg (mt (permAt_inj hi hj).mp (Ne.symm h)), if_neg h, List.getD_eq_getElem?_getD]

/-- The lengths that are not present become 0, and the others stay (42 R520). -/
theorem State.clearPrecodeLens_getD {n i j : Nat} {s : State} (hs : s.precodeLens.length = 19) (hn : i + n ≤ 19)
    (hj : j < 19) : (State.clearPrecodeLens n i s).precodeLens.getD (permAt j) 0 =
      if i ≤ j ∧ j < i + n then 0 else s.precodeLens.getD (permAt j) 0 := by
  induction n generalizing i s with
  | zero => rw [if_neg (by omega)]; rfl
  | succ n ih =>
    rw [State.clearPrecodeLens, ih (by rwa [setPrecodeLen_precodeLens, List.length_set]) (by omega),
      setPrecodeLen_precodeLens, getD_set_permAt hs (by omega) hj]
    obtain rfl | hne := eq_or_ne j i
    · rw [if_neg (by omega), if_pos rfl, if_pos (by omega)]
    · rw [if_neg hne]
      exact if_congr (by omega) rfl rfl

/-- The state once precode length number `index` is written, before the count is looked at (42 R520). -/
def State.withPcl (s : State) (l : BitVec 3) : State :=
  { s with
    c := s.c + 3, dp := s.dp.consume 3, precodeLens := s.precodeLens.set (permAt s.index) l, index := s.index + 1 }

theorem exec_pcl_of_le {s : State} (h : s.c + 3 ≤ 8 * s.inN) (l : BitVec 3) :
    exec (.pcl l) s = (s.withPcl l).afterPrecodeLen := by
  show execPcl l s = _
  rw [execPcl, State.consume_of_le h]
  rfl

/-- Settles O29: the loop of 42 R520 goes on. -/
theorem precodeLengthWritten : Obligations.PrecodeLengthWritten := by
  intro s l h hi
  exact (exec_pcl_of_le h l).trans (if_pos hi)

/-- Settles O30: the loop ends, the lengths that are not present are cleared (`State.clearPrecodeLens_getD`), and the
build follows. -/
theorem lastPrecodeLengthBuilds : Obligations.LastPrecodeLengthBuilds := by
  intro s l hlen h hmin hmax hlast
  have hexec := exec_pcl_of_le h l
  have hlen' : (s.withPcl l).precodeLens.length = 19 := (List.length_set ..).trans hlen
  obtain ⟨hlt, -⟩ | ⟨-, hafter⟩ := (s.withPcl l).afterPrecodeLen_cases
  · exact absurd hlast (Nat.ne_of_lt hlt)
  have hpl := fun j (hj : j < 19) =>
    State.clearPrecodeLens_getD (n := 19 - s.ncl.toNat) (i := s.ncl.toNat) hlen' (by omega) hj
  have hpl19 := State.clearPrecodeLens_length (19 - s.ncl.toNat) s.ncl.toNat (s.withPcl l)
  rw [hafter, show (s.withPcl l).ncl = s.ncl from rfl, show Config.numPrecodeSyms = 19 from rfl,
    State.clearPrecodeLens_frame] at hexec
  generalize (State.clearPrecodeLens _ _ (s.withPcl l)).precodeLens = pl at hpl hpl19 hexec
  refine ⟨pl, hpl19.trans hlen', fun j hj => ?_, fun t ht => ?_, fun ht => ?_⟩
  · rw [hpl j hj, show (s.withPcl l).precodeLens = s.precodeLens.set (permAt s.index) l from rfl,
      getD_set_permAt hlen (by omega) hj]
    rcases Nat.lt_trichotomy j s.index with hlt | rfl | hgt
    · rw [if_neg (by omega), if_neg (by omega), if_pos hlt]
    · rw [if_neg (by omega), if_pos rfl, if_neg (Nat.lt_irrefl _), if_pos rfl]
    · rw [if_pos (by omega), if_neg (by omega), if_neg (by omega)]
  · exact hexec.trans (State.buildPrecode_of_ok (s := { s.withPcl l with precodeLens := pl }) ht _)
  · obtain ⟨w, hw, hended, hkeep⟩ := State.buildPrecode_of_error (s := { s.withPcl l with precodeLens := pl })
      ht fun s1 => .next { s1 with phase := .codeLen, index := 0 }
    exact ⟨w, hexec.trans hw, hended, hkeep⟩

/-! ### Runs of code lengths (42 R522 to R529) -/

/-- A run takes `n` cells from index `i` on, and leaves the others. -/
theorem setRun_getD {α : Type} (v d : α) {n i : Nat} {l : List α} (h : i + n ≤ l.length) (j : Nat) :
    (setRun v n i l).getD j d = if i ≤ j ∧ j < i + n then v else l.getD j d := by
  induction n generalizing i l with
  | zero => rw [if_neg (by omega)]; rfl
  | succ n ih =>
    rw [setRun, ih (by rw [List.length_set]; omega), List.getD_eq_getElem?_getD, List.getElem?_set]
    obtain rfl | hne := eq_or_ne i j
    · rw [if_neg (by omega), if_pos rfl, if_pos (by omega), if_pos (by omega), Option.getD_some]
    · rw [if_neg hne, ← List.getD_eq_getElem?_getD]
      exact if_congr (by omega) rfl rfl

/-- The state once a run of `r` copies of `v` is written, before the count is looked at. -/
def State.withRun (s : State) (r : Nat) (v : BitVec 4) : State :=
  { s with lens := setRun v r s.index s.lens, index := s.index + r }

/-- With its bits there, and a previous length where it repeats one, a code-length symbol writes its run. -/
theorem exec_of_codeLenRun {i : Instr} {s : State} {bits r : Nat} {v : BitVec 4}
    (hrun : codeLenRun i s = some (bits, r, v)) (hprev : ∀ cw x, i = .clRepPrev cw x → s.index ≠ 0)
    (h : s.c + bits ≤ 8 * s.inN) : exec i s = ((s.advance bits).withRun r v).afterLens := by
  unfold codeLenRun at hrun
  split at hrun <;> cases hrun
  case h_1 cw =>
    show execCl cw v s = _
    rw [execCl, State.consume_of_le h]
    rfl
  case h_2 cw x =>
    show execClRepPrev cw x s = _
    rw [execClRepPrev, State.consume_of_le (by omega), State.advance_index, if_neg (hprev cw x rfl),
      State.consume_of_le, State.advance_advance]
    · rfl
    · rw [State.advance_c, State.inN_advance]
      omega
  case h_3 cw x =>
    show execClZero cw x s = _
    rw [execClZero, State.consume_consume_of_le h]
    rfl
  case h_4 cw x =>
    show execClZeroLong cw x s = _
    rw [execClZeroLong, State.consume_consume_of_le h]
    rfl

/-- Settles O31: the run is written (`exec_of_codeLenRun`) and the loop of 42 R522 goes on. -/
theorem codeLengthSymbolsWriteRuns : Obligations.CodeLengthSymbolsWriteRuns := by
  intro i s bits r v hrun hprev hlen htotal h hi
  refine ⟨setRun v r s.index s.lens, (setRun_length ..).trans hlen, ?_, setRun_getD v 0 (by omega)⟩
  exact (exec_of_codeLenRun hrun hprev h).trans (if_pos hi)

/-! ### The two builds of a dynamic header (42 R529) -/

/-- Settles O32: with the last run written, `exec_of_codeLenRun` leads to the two builds, the offset table first. -/
theorem lastCodeLengthBuilds : Obligations.LastCodeLengthBuilds := by
  intro i s bits r v ls litL offL hrun hprev h hi hls hlitL hoffL
  subst hls hlitL hoffL
  have hexec := exec_of_codeLenRun hrun hprev h
  set u := (s.advance bits).withRun r v
  have hbuild : exec i s = u.buildCodes fun s1 => .next { s1 with phase := .body } := by
    obtain ⟨hlt, -⟩ | ⟨hlt, -⟩ | ⟨-, hafter⟩ := u.afterLens_cases
    · exact absurd hi (Nat.ne_of_lt hlt)
    · exact absurd hi (Nat.ne_of_gt hlt)
    · exact hexec.trans hafter
  refine ⟨fun tOff tLit hOff hLit => ?_, fun hOff => ?_, fun tOff hOff hLit => ?_⟩
  · exact hbuild.trans (State.buildCodes_of_ok (s := u) hOff hLit _)
  · rw [hbuild]
    exact State.buildCodes_of_offset_error (s := u) hOff _
  · rw [hbuild]
    exact State.buildCodes_of_litlen_error (s := u) hOff hLit _

/-! ### What raises (42 R524, R527) -/

/-- 42 R524: with no previous length a repeat raises once its codeword is consumed. -/
theorem exec_clRepPrev_of_index_zero {s : State} {cw : BitVec 4} (hi : s.index = 0) (h : s.c + cw.toNat ≤ 8 * s.inN)
    (x : BitVec 2) : exec (.clRepPrev cw x) s = .next ((s.advance cw.toNat).raise .repeatNoPrevious) := by
  show execClRepPrev cw x s = _
  rw [execClRepPrev, State.consume_of_le h]
  exact if_pos hi

/-- Settles O34: the check comes between the two consumes. -/
theorem repeatWithNoPreviousIsBadData : Obligations.RepeatWithNoPreviousIsBadData :=
  fun _ _ x hi h => ⟨_, exec_clRepPrev_of_index_zero hi h x, State.raise_ended _ _, rfl, rfl⟩

/-- Settles O33: a repeat with no previous length raises in the check (O34), and any other run is written, but nothing
is built behind it. -/
theorem lengthOverrunIsBadData : Obligations.LengthOverrunIsBadData := by
  intro i s bits r v hrun h hi
  by_cases hprev : ∀ cw x, i = .clRepPrev cw x → s.index ≠ 0
  · have hexec := exec_of_codeLenRun hrun hprev h
    obtain ⟨hlt, -⟩ | ⟨-, hafter⟩ | ⟨heq, -⟩ := ((s.advance bits).withRun r v).afterLens_cases
    · exact absurd hi (Nat.lt_asymm hlt)
    · exact ⟨_, hexec.trans hafter, State.raise_ended _ _, rfl, rfl, rfl⟩
    · exact absurd heq (Nat.ne_of_gt hi)
  · push Not at hprev
    obtain ⟨cw, x, rfl, h0⟩ := hprev
    cases hrun
    exact ⟨_, exec_clRepPrev_of_index_zero h0 (by omega) x, State.raise_ended _ _, rfl, rfl, rfl⟩

end Sys2Proof.Machine

/-! PROOFS. The second half of a match: its two checks and its overlapping copy, with what a copied byte is in terms of
OUT before the match (43 R609, R611 to R613). -/

namespace Sys2Proof.Machine
open Sys2Proof

/-! ### The copy (43 R613) -/

theorem State.copyMatch_outNext {offset n : Nat} {s t : State} (h : State.copyMatch offset n s = some t) :
    t.outNext = s.outNext + BitVec.ofNat 64 n := by
  induction n generalizing s with
  | zero => cases h; exact (BitVec.add_zero _).symm
  | succ n ih =>
    simp only [State.copyMatch] at h
    split at h
    · rw [ih h, emit_outNext, Nat.add_comm n, BitVec.ofNat_add, BitVec.add_assoc]
      rfl
    · cases h

/-- Outside the bytes of the match a copy leaves OUT alone (20 R202). -/
theorem State.copyMatch_read_other {offset n : Nat} {s t : State} (h : State.copyMatch offset n s = some t)
    (room : n ≤ s.outN.toNat - s.outNext.toNat) {a : Nat}
    (ha : a < s.outNext.toNat ∨ s.outNext.toNat + n ≤ a) : Memory.read t.out a = Memory.read s.out a := by
  induction n generalizing s with
  | zero => cases h; rfl
  | succ n ih =>
    simp only [State.copyMatch] at h
    split at h
    · next v _ =>
      have hnext := emit_outNext_toNat v (show s.outNext.toNat < s.outN.toNat by omega)
      rw [ih h (by rw [emit_outN, hnext]; omega) (by rw [hnext]; omega), emit_read, if_neg (by omega)]
    · cases h

/-- The remainder of the next number goes up by 1, or back to 0. -/
theorem succ_mod_cases {d : Nat} (hd : 1 ≤ d) (k : Nat) :
    (k % d + 1 < d ∧ (k + 1) % d = k % d + 1) ∨ (k % d + 1 = d ∧ (k + 1) % d = 0) := by
  rw [← Nat.mod_add_mod k d 1]
  have hle : k % d + 1 ≤ d := Nat.mod_lt k hd
  obtain hlt | heq := hle.lt_or_eq
  · exact .inl ⟨hlt, Nat.mod_eq_of_lt hlt⟩
  · exact .inr ⟨heq, by rw [heq, Nat.mod_self]⟩

/-- The bytes of the match are the last `offset` bytes of OUT before it, over and over. The induction is on the bytes
still to come: once the first is written, the last `offset` bytes are the same ones, one place on in their order. -/
theorem State.copyMatch_read {offset n : Nat} {s t : State} (h : State.copyMatch offset n s = some t)
    (hmin : 1 ≤ offset) (hmax : offset ≤ s.outNext.toNat) (room : n ≤ s.outN.toNat - s.outNext.toNat)
    {k : Nat} (hk : k < n) :
    Memory.read t.out (s.outNext.toNat + k) = Memory.read s.out (s.outNext.toNat - offset + k % offset) := by
  induction n generalizing s k with
  | zero => exact absurd hk (Nat.not_lt_zero k)
  | succ n ih =>
    simp only [State.copyMatch] at h
    split at h
    · next v hv =>
      have hnext := emit_outNext_toNat v (show s.outNext.toNat < s.outN.toNat by omega)
      have hroom : n ≤ (s.emit v).outN.toNat - (s.emit v).outNext.toNat := by rw [emit_outN, hnext]; omega
      cases k with
      | zero =>
        rw [copyMatch_read_other h hroom (.inl (by rw [hnext]; omega)), emit_read, if_pos (Nat.add_zero _),
          Nat.zero_mod, Nat.add_zero, hv]
      | succ k =>
        have hbyte := ih h (by rw [hnext]; omega) hroom (Nat.lt_of_succ_lt_succ hk)
        rw [hnext, emit_read, Nat.add_right_comm, Nat.add_assoc] at hbyte
        rw [hbyte]
        obtain ⟨hlt, hmod⟩ | ⟨heq, hmod⟩ := succ_mod_cases hmin k <;> rw [hmod]
        · rw [if_neg (by omega)]
          congr 1
          omega
        · rw [if_pos (by omega), Nat.add_zero, hv]
    · cases h

/-! ### Offset symbols (30 R310, 43 R611) -/

/-- No offset is 0. -/
theorem offBase_pos {d : Nat} (hd : d ≤ 29) : 1 ≤ offBase d := by
  have hall : ∀ d < 30, 1 ≤ offBase d := by decide
  exact hall d (Nat.lt_succ_of_le hd)

/-- The meaning of an offset symbol, by the table of 30 R310. -/
theorem exec_of_offset_layout {i : Instr} {sym cw xw y : Nat} (h : i.layout = .coded .offset sym cw xw y)
    (hmax : sym ≤ 29) (s : State) : exec i s = s.offsetElement (cw + xw) (offBase sym + y) := by
  cases i <;> cases h
  case dist30 cw => exact absurd hmax (by decide)
  case dist31 cw => exact absurd hmax (by decide)
  all_goals rfl

/-- With its bits there, an offset symbol is the second half of the match, behind its bits. -/
theorem exec_of_offset_layout_of_le {i : Instr} {s : State} {sym cw xw y : Nat}
    (h : i.layout = .coded .offset sym cw xw y) (hmax : sym ≤ 29) (hin : s.c + (cw + xw) ≤ 8 * s.inN) :
    exec i s = (s.advance (cw + xw)).doMatch (offBase sym + y) :=
  (exec_of_offset_layout h hmax s).trans (State.consume_of_le hin _)

/-- Settles O38: where OUT is in order the copy goes through (`State.OutOk.copyMatch_isSome`), changes OUT and
`out_next` only (`State.copyMatch_frame`), and repeats the last `offset` bytes (`State.copyMatch_read`). -/
theorem offsetSymbolsCopy : Obligations.OffsetSymbolsCopy := by
  refine ⟨by decide, fun i s sym cw xw y off h hsym hoff => ?_⟩
  obtain ⟨-, -, hxw, hy⟩ := offset_layout_cases h
  refine ⟨hxw, hy, fun hout hin hmax room => ?_⟩
  have hmin : 1 ≤ off := hoff ▸ Nat.le_add_right_of_le (offBase_pos hsym)
  have hout' : (s.advance (cw + xw)).OutOk := hout.congr rfl rfl rfl hout.defined
  obtain ⟨t, ht⟩ := hout'.copyMatch_isSome hmin hmax room
  refine ⟨t.out, ?_, fun k => State.copyMatch_read ht hmin hmax room, fun a => State.copyMatch_read_other ht room⟩
  obtain ⟨hlt, -⟩ | ⟨-, hlt, -⟩ | ⟨-, -, ⟨hnone, -⟩ | ⟨u, hu, hmatch⟩⟩ := (s.advance (cw + xw)).doMatch_cases off
  · exact absurd hmax (Nat.not_le.mpr hlt)
  · exact absurd room (Nat.not_le.mpr hlt)
  · exact nomatch ht.symm.trans hnone
  · obtain rfl : t = u := Option.some.inj (ht.symm.trans hu)
    rw [exec_of_offset_layout_of_le h hsym hin, ← hoff, hmatch, State.copyMatch_frame ht,
      State.copyMatch_outNext ht]
    rfl

/-- Settles O39: each check is made behind the consume and before the copy, the one of the offset first. -/
theorem matchChecks : Obligations.MatchChecks := by
  intro i s sym cw xw y h hsym hin
  rw [exec_of_offset_layout_of_le h hsym hin]
  refine ⟨fun hfar => ?_, fun hnear hroom => ?_⟩
  · exact ⟨_, if_pos hfar, State.raise_ended _ _, rfl, rfl, rfl, .refl s⟩
  · exact ⟨_, (if_neg (Nat.not_lt.mpr hnear)).trans (if_pos hroom), State.raise_ended _ _, rfl, rfl, rfl, .refl s⟩

/-! ### Reserved symbols (30 R311, 43 R649, R650, R690, R691) -/

/-- Settles O40: under `reject` each meaning is a raise in place of the consume. -/
theorem reservedSymbolsAreBadData : Obligations.ReservedSymbolsAreBadData := by
  refine ⟨fun s cw i hi => ?_, fun s cw => ⟨rfl, rfl⟩⟩
  have hraise : exec i s = .next (s.raise .reservedLitlen) ∨ exec i s = .next (s.raise .reservedOffset) := by
    obtain rfl | rfl | rfl | rfl := hi
    · exact .inl rfl
    · exact .inl rfl
    · exact .inr rfl
    · exact .inr rfl
  obtain h | h := hraise
  · exact ⟨_, h, s.raise_ended .reservedLitlen, rfl, rfl, rfl, s.raise_sameObject _⟩
  · exact ⟨_, h, s.raise_ended .reservedOffset, rfl, rfl, rfl, s.raise_sameObject _⟩

end Sys2Proof.Machine

/-! PROOFS. Literals, the end of a block, and a step over a subtable pointer (43 R601 to R604). -/

namespace Sys2Proof.Machine
open Sys2Proof

/-! ### Literals (43 R601) -/

theorem exec_lit (s : State) (cw : BitVec 4) (b : Byte) : exec (.lit cw b) s =
    s.consume cw.toNat fun u => if u.outNext = u.outN then .next (u.raise .literalSpace) else .next (u.emit b) := rfl

/-- With its codeword there, a literal is its space check and the write, behind its codeword. -/
theorem exec_lit_of_le {s : State} {cw : BitVec 4} (h : s.c + cw.toNat ≤ 8 * s.inN) (b : Byte) :
    exec (.lit cw b) s = if s.outNext = s.outN then .next ((s.advance cw.toNat).raise .literalSpace)
      else .next ((s.advance cw.toNat).emit b) :=
  (exec_lit s cw b).trans (State.consume_of_le h _)

/-- Settles O35: the consume is cut short, or the space check behind it fails, or the byte is written
(`State.emit_read`). -/
theorem literalWritesOneByte : Obligations.LiteralWritesOneByte := by
  refine fun s cw b => ⟨fun hin hroom => ?_, fun hin hfull => ?_, fun hcut => ?_⟩
  · exact ⟨_, (exec_lit_of_le hin b).trans (if_neg hroom), (s.advance cw.toNat).emit_read b⟩
  · exact ⟨_, (exec_lit_of_le hin b).trans (if_pos hfull), State.raise_ended _ _, rfl, rfl, rfl, .refl s⟩
  · exact ⟨_, (exec_lit s cw b).trans (State.consume_of_lt hcut _), s.raise_ended .overread, rfl, rfl⟩

/-! ### The end of a block (43 R602) -/

theorem exec_eob (s : State) (cw : BitVec 4) :
    exec (.eob cw) s = s.consume cw.toNat fun u => .next u.endBlock := rfl

/-- Settles O36: behind its codeword the symbol is the end of the block (44 R704). -/
theorem endOfBlock : Obligations.EndOfBlock := by
  refine fun s cw => ⟨fun hin hmore => ?_, fun hin hfinal => ?_, fun hcut => ?_⟩
  · rw [exec_eob, State.consume_of_le hin, State.endBlock_of_not_final (s := s.advance _) hmore]
    rfl
  · rw [exec_eob, State.consume_of_le hin, State.endBlock_of_final (s := s.advance _) hfinal]
    rfl
  · exact ⟨_, (exec_eob s cw).trans (State.consume_of_lt hcut _), s.raise_ended .overread⟩

/-! ### Subtable pointers (43 R604) -/

section
variable {s : State} {table : List Entry} {T : Nat} {p : Entry}

/-- A pointer's prefix is consumed, and the entry is the one of its subtable. -/
theorem State.lookup_of_pointer (he : p = table.getD (s.peek T) default) (hp : p.isPointer = true)
    (h : s.c + p.nbits ≤ 8 * s.inN) (k : Entry → State → Fetched) :
    s.lookup table T k =
      k (table.getD (p.subStart + peekBits s.inBuf (s.c + p.nbits) p.cwbits.toNat) default) (s.advance p.nbits) := by
  subst he
  exact (if_pos hp).trans (if_pos h)

/-- A pointer's prefix that is cut short raises. -/
theorem State.lookup_of_pointer_cut (he : p = table.getD (s.peek T) default) (hp : p.isPointer = true)
    (h : 8 * s.inN < s.c + p.nbits) (k : Entry → State → Fetched) : s.lookup table T k = .raised (s.raise .overread) := by
  subst he
  exact (if_pos hp).trans (if_neg (Nat.not_le.mpr h))

end

theorem step_of_fetch_raised {s u : State} (hport : s.port = none) (hb : s.busy = true) (hf : fetch s = .raised u) :
    step s = .next u := by
  simp [step, hport, hb, hf]

/-- A step whose fetch is a lookup that finds a pointer: the element of the subtable's entry, or the overread of the
prefix. -/
theorem step_of_pointer {s u : State} {table : List Entry} {T : Nat} {p : Entry}
    {decode : Entry → List Byte → Nat → Except DecodeError Instr} (hport : s.port = none) (hb : s.busy = true)
    (hf : fetch s = u.lookup table T fun e v => .ofDecoded (decode e v.inBuf v.c) v)
    (he : p = table.getD (u.peek T) default) (hp : p.isPointer = true) :
    (∀ e i, u.c + p.nbits ≤ 8 * u.inN →
      e = table.getD (p.subStart + peekBits u.inBuf (u.c + p.nbits) p.cwbits.toNat) default →
      decode e u.inBuf (u.c + p.nbits) = .ok i → step s = exec i (u.advance p.nbits)) ∧
    (8 * u.inN < u.c + p.nbits → step s = .next (u.raise .overread)) := by
  refine ⟨fun e i hin hsub hdec => step_of_fetch hport hb ?_, fun hcut => step_of_fetch_raised hport hb ?_⟩
  · rw [hf, State.lookup_of_pointer he hp hin, ← hsub]
    exact Fetched.ofDecoded_of_ok _ hdec
  · rw [hf, State.lookup_of_pointer_cut he hp hcut]

theorem State.refillForOffset_inN (s : State) : s.refillForOffset.inN = s.inN :=
  congrArg List.length s.refillForOffset_inBuf

/-- Settles O2: in both phases the fetch is a lookup behind a refill, which moves no bit of the stream. -/
theorem stepRunsSubtableElement : Obligations.StepRunsSubtableElement := by
  refine fun s p e i hport hb hp => ⟨fun hphase he => ?_, fun hphase he => ?_⟩
  · obtain ⟨helement, hcut⟩ := step_of_pointer (u := s.refill) hport hb (fetch_of_body hphase) he hp
    exact ⟨helement e i, hcut⟩
  · rw [← s.refillForOffset_peek] at he
    obtain ⟨helement, hcut⟩ := step_of_pointer hport hb (fetch_of_offset hphase) he hp
    simp only [s.refillForOffset_inBuf, s.refillForOffset_c, s.refillForOffset_inN] at helement hcut
    exact ⟨helement e i, hcut⟩

end Sys2Proof.Machine

/-! PROOFS. The host's commands and the end of a stream (44 R701 to R705). -/

namespace Sys2Proof.Machine
open Sys2Proof

/-! ### Commands (44 R700 to R703) -/

/-- Settles O42: the branch of an idle block. -/
theorem resetCommand : Obligations.ResetCommand := fun _ _ hb => if_neg (ne_true_of_eq_false hb)

/-- Settles O43: the branch of an idle block. -/
theorem decompressAccepted : Obligations.DecompressAccepted := fun _ _ _ _ _ hb => if_neg (ne_true_of_eq_false hb)

theorem step_of_command {s : State} {m : HostCmd} {i : Instr} (hm : s.port = some m) (hi : decodeCommand m = .ok i) :
    step s = exec i s.takePort := by
  simp [step, hm, hi]

theorem step_of_command_error {s : State} {m : HostCmd} {e : DecodeError} (hm : s.port = some m)
    (he : decodeCommand m = .error e) : step s = .next s.takePort.refuse := by
  simp [step, hm, he]

theorem step_of_idle {s : State} (hp : s.port = none) (hb : s.busy = false) : step s = .next s := by
  simp [step, hp, hb]

/-- Settles O3: the three ways a step can go without an element. -/
theorem stepRunsCommand : Obligations.StepRunsCommand :=
  fun _ => ⟨fun _ _ => step_of_command, fun _ _ => step_of_command_error, step_of_idle⟩

/-- 44 R702: RESET and DECOMPRESS are refused while the block is busy. -/
theorem exec_of_busy {s : State} (hb : s.busy = true) (flags : BitVec 2) (a b : Bool) (inBytes : List Byte)
    (outN : Count) :
    exec (.cmdReset flags) s = .next s.refuse ∧ exec (.cmdDecompress a b inBytes outN) s = .next s.refuse :=
  ⟨if_pos hb, if_pos hb⟩

/-- 44 R702: a decoded command that the block may not accept is refused. -/
theorem exec_refused {s : State} {m : HostCmd} {i : Instr} (hi : decodeCommand m = .ok i)
    (h : s.busy = true ∨ m.word.extractLsb' 0 2 = 2 ∨ m.word.extractLsb' 0 2 = 3 ∨ m.word.extractLsb' 4 28 ≠ 0) :
    exec i s = .next s.refuse := by
  have busy (hbits : m.word.extractLsb' 4 28 = 0) (hop : (m.word.extractLsb' 0 2).toNat < 2) : s.busy = true := by
    obtain hb | h2 | h3 | hne := h
    · exact hb
    · rw [h2] at hop; exact absurd hop (by decide)
    · rw [h3] at hop; exact absurd hop (by decide)
    · exact absurd hbits hne
  unfold decodeCommand at hi
  split at hi
  case h_1 hop =>
    split at hi <;> cases hi
    next hbits => exact (exec_of_busy (busy hbits (hop.trans_lt (by decide))) _ false false [] 0).1
  case h_2 hop =>
    split at hi <;> cases hi
    next hbits => exact (exec_of_busy (busy hbits (hop.trans_lt (by decide))) 0 _ _ _ _).2
  case h_3 => cases hi; rfl
  case h_4 => cases hi; rfl

/-- Settles O44: a word that decodes is refused by its meaning (`exec_refused`), and one that does not by the step. -/
theorem refusedCommands : Obligations.RefusedCommands := by
  refine ⟨fun s rest => ⟨rfl, rfl⟩, fun s flags a b inBytes outN hb => exec_of_busy hb flags a b inBytes outN, ?_⟩
  intro s m hm h
  cases hi : decodeCommand m with
  | ok i => exact (step_of_command hm hi).trans (exec_refused (s := s.takePort) hi h)
  | error e => exact step_of_command_error hm hi

/-! ### The end of a stream (44 R705) -/

theorem State.finalResult_eq_shortOutput_iff (s : State) :
    s.finalResult = .shortOutput ↔ s.wantOut = false ∧ s.outNext ≠ s.outN := by
  unfold State.finalResult
  split
  · next h => exact iff_of_true rfl h
  · next h => exact iff_of_false nofun h

/-- Settles O46: `ceil(C/8)` fits the count, since the cursor is inside IN. -/
theorem finishReports : Obligations.FinishReports := by
  intro s hc hin
  have hcursor : s.c ≤ 8 * s.inBuf.length := hc
  obtain ⟨hlen, -⟩ := hin
  refine ⟨s.finalResult_eq_shortOutput_iff, fun hne => ?_, rfl, fun hwant => ?_, ?_, fun hvalid => if_pos hvalid, rfl,
    .refl s, ⟨rfl, rfl, rfl, rfl⟩, rfl, rfl, rfl, rfl⟩
  · exact if_neg (mt s.finalResult_eq_shortOutput_iff.mpr hne)
  · rw [State.finish_actualIn, if_pos hwant, BitVec.toNat_ofNat]
    exact Nat.mod_eq_of_lt (by omega)
  · rw [State.finish_actualOutValid, Bool.and_eq_true, decide_eq_true_iff]
    rfl

/-! ### The element a step runs (44 R704) -/

theorem fetch_of_blockHeader {s : State} (hp : s.phase = .blockHeader) :
    fetch s = .instr (decodeBlockHeader s.inBuf s.c) s.refill := by
  rw [fetch, hp]
  rfl

theorem fetch_of_precodeLen {s : State} (hp : s.phase = .precodeLen) :
    fetch s = .instr (decodePcl s.inBuf s.c) s.refill := by
  rw [fetch, hp]
  rfl

/-- Settles O1: each phase fetches with its own decoder, behind a refill, and a lookup of a direct entry consumes
nothing (`State.lookup_of_direct`). -/
theorem stepRunsDecodedElement : Obligations.StepRunsDecodedElement := by
  refine fun s hport hb => ⟨fun hp => ?_, fun hp => ?_, fun i hp hi => ?_, fun e i hp he hdirect hi => ?_,
    fun e i hp he hdirect hi => ?_⟩
  · exact step_of_fetch hport hb (fetch_of_blockHeader hp)
  · exact step_of_fetch hport hb (fetch_of_precodeLen hp)
  · refine step_of_fetch hport hb ?_
    rw [fetch_of_codeLen hp]
    exact Fetched.ofDecoded_of_ok _ hi
  · refine step_of_fetch hport hb ?_
    rw [fetch_of_body hp, State.lookup_of_direct (s := s.refill) he.symm hdirect]
    exact Fetched.ofDecoded_of_ok _ hi
  · refine step_of_fetch hport hb ?_
    rw [← s.refillForOffset_peek] at he
    rw [← s.refillForOffset_inBuf, ← s.refillForOffset_c] at hi
    rw [fetch_of_offset hp, State.lookup_of_direct he.symm hdirect]
    exact Fetched.ofDecoded_of_ok _ hi

end Sys2Proof.Machine

/-! PROOFS. Two runs that the host cannot tell apart: what a response is a function of, and when two states of a running
command go on alike (44 R711). -/

namespace Sys2Proof.Machine
open Sys2Proof

/-! ### What a response is made of -/

/-- What a running command has read and written, whatever its phase. -/
structure View where
  c       : Nat
  inBuf   : List Byte
  out     : Memory
  outN    : Count
  outNext : Count
  wantIn  : Bool
  wantOut : Bool
  refused : Bool

def State.view (s : State) : View :=
  ⟨s.c, s.inBuf, s.out, s.outN, s.outNext, s.wantIn, s.wantOut, s.refused⟩

/-- 44 R708, R709 in terms of the view. -/
def View.finalResult (v : View) : Result :=
  if v.wantOut = false ∧ v.outNext ≠ v.outN then .shortOutput else .success

/-- 44 R705: the response to a stream that ends in this view. -/
def View.finalResponse (v : View) : Response where
  result    := v.finalResult
  actualIn  := if v.wantIn then some (BitVec.ofNat 64 ((v.c + 7) / 8)) else none
  actualOut := if v.wantOut && decide (v.finalResult = .success) then some v.outNext else none
  refused   := v.refused
  outBytes  := v.out.filter fun p => p.1 < v.outNext.toNat

theorem State.finish_response (s : State) : s.finish.response = some s.view.finalResponse := by
  unfold State.response
  rw [if_neg (by simp), Option.some.injEq, View.finalResponse, Response.mk.injEq]
  refine ⟨rfl, ?_, ?_, rfl, rfl⟩
  · show (if s.wantIn then some s.finish.actualIn else none) = if s.wantIn then _ else none
    cases hw : s.wantIn
    · rfl
    · rw [State.finish_actualIn, hw]
      rfl
  · show (if s.wantOut && decide (s.finalResult = .success) then some s.finish.actualOut else none) =
      if s.wantOut && decide (s.finalResult = .success) then some s.outNext else none
    rw [State.finish_actualOut]
    cases s.wantOut && decide (s.finalResult = .success)
    · rfl
    · rfl

/-- 44 R710: a raise leaves no count and no byte of OUT. -/
theorem State.raise_response (s : State) (e : Cause) :
    (s.raise e).response = some ⟨e.result, none, none, s.refused, []⟩ := by
  simp [State.response]

/-! ### Running together -/

/-- A command runs, and none is at the port. -/
def State.Running (s : State) : Prop := s.busy = true ∧ s.port = none

/-- Two states of running commands with one view. -/
structure State.Together (s t : State) : Prop where
  view  : s.view = t.view
  left  : s.Running
  right : t.Running

/-- Two states with one view inside a block: the block is the last one for both (42 R500). -/
structure State.InBlock (s t : State) : Prop where
  together : s.Together t
  final    : s.final = t.final

section
variable {s t u v : State}

theorem State.Together.c (h : s.Together t) : s.c = t.c := congrArg View.c h.view
theorem State.Together.inBuf (h : s.Together t) : s.inBuf = t.inBuf := congrArg View.inBuf h.view
theorem State.Together.inN (h : s.Together t) : s.inN = t.inN := congrArg List.length h.inBuf
theorem State.Together.out (h : s.Together t) : s.out = t.out := congrArg View.out h.view
theorem State.Together.outN (h : s.Together t) : s.outN = t.outN := congrArg View.outN h.view
theorem State.Together.outNext (h : s.Together t) : s.outNext = t.outNext := congrArg View.outNext h.view
theorem State.Together.refused (h : s.Together t) : s.refused = t.refused := congrArg View.refused h.view

/-- Two states go on together by what changes both views alike. -/
theorem State.Together.map (h : s.Together t) (f : View → View := id) (hu : u.view = f s.view := by rfl)
    (hv : v.view = f t.view := by rfl) (left : u.Running = s.Running := by rfl)
    (right : v.Running = t.Running := by rfl) : u.Together v :=
  ⟨by rw [hu, hv, h.view], left.mpr h.left, right.mpr h.right⟩

theorem State.InBlock.map (h : s.InBlock t) (f : View → View := id) (hu : u.view = f s.view := by rfl)
    (hv : v.view = f t.view := by rfl) (left : u.Running = s.Running := by rfl)
    (right : v.Running = t.Running := by rfl) (hfu : u.final = s.final := by rfl) (hfv : v.final = t.final := by rfl) :
    u.InBlock v :=
  ⟨h.together.map f hu hv left right, by rw [hfu, hfv, h.final]⟩

theorem State.Together.advance (h : s.Together t) (n : Nat) : (s.advance n).Together (t.advance n) :=
  h.map fun w => { w with c := w.c + n }

end

/-! ### Alike in each phase -/

/-- The state holds tables that builds of these lit/len and offset lengths gave. -/
def State.HasCodes (k : Codes) (s : State) : Prop :=
  (k.litlen.length ≤ 288 ∧ (∀ l ∈ k.litlen, l ≤ 15) ∧ s.TableOf k .litlen) ∧
    k.offset.length ≤ 32 ∧ (∀ l ∈ k.offset, l ≤ 15) ∧ s.TableOf k .offset

/-- One pair of codes is in force; what the tables hold behind those of the codes may differ. -/
def State.SameCodes (s t : State) : Prop := ∃ k, State.HasCodes k s ∧ State.HasCodes k t

/-- The precode table is the one built from `precode_lens`, the same in both states. -/
def State.SamePrecode (s t : State) : Prop :=
  buildPrecodeTable s.precodeLengths = .ok s.precodeTable ∧
    buildPrecodeTable t.precodeLengths = .ok t.precodeTable ∧ s.precodeTable = t.precodeTable

/-- Alike in a dynamic header: the counts and the loop variable are the same (42 R515 to R522). -/
structure State.InHeader (s t : State) : Prop where
  block : s.InBlock t
  nlit  : s.nlit = t.nlit
  noff  : s.noff = t.noff
  ncl   : s.ncl = t.ncl
  index : s.index = t.index

/-- Alike in the loop of 42 R520: so are the precode lengths written so far. -/
structure State.InPrecode (s t : State) : Prop where
  header  : s.InHeader t
  left    : s.phase = .precodeLen
  right   : t.phase = .precodeLen
  written : ∀ j, j < s.index → s.precodeLens.getD (permAt j) 0 = t.precodeLens.getD (permAt j) 0

/-- Alike in the loop of 42 R522: so are the precode and the lengths written so far. -/
structure State.InLens (s t : State) : Prop where
  header  : s.InHeader t
  left    : s.phase = .codeLen
  right   : t.phase = .codeLen
  precode : s.SamePrecode t
  written : ∀ j, j < s.index → s.lens.getD j 0 = t.lens.getD j 0

/-- Alike in a body: so are the codes in force (43 R600). -/
structure State.InBody (s t : State) : Prop where
  block : s.InBlock t
  codes : s.SameCodes t

/-- Two states of running commands agree in all that is read from here on before it is written. -/
inductive State.Alike (s t : State) : Prop
  | blockHeader (h : s.Together t) (left : s.phase = .blockHeader) (right : t.phase = .blockHeader)
  | precodeLen (h : s.InPrecode t)
  | codeLen (h : s.InLens t)
  | body (h : s.InBody t) (left : s.phase = .body) (right : t.phase = .body)
  | offset (h : s.InBody t) (left : s.phase = .offset) (right : t.phase = .offset) (matchLen : s.matchLen = t.matchLen)

/-- Both commands have ended, with one response. -/
structure State.EndedAlike (s t : State) : Prop where
  busyLeft  : s.busy = false
  busyRight : t.busy = false
  portLeft  : s.port = none
  portRight : t.port = none
  response  : s.response = t.response

/-- Two outcomes that the host cannot tell apart, now or later: alike and running, ended alike, or both stopped. -/
inductive OutAlike : Out → Out → Prop
  | running {s t : State} (h : s.Alike t) : OutAlike (.next s) (.next t)
  | ended {s t : State} (h : s.EndedAlike t) : OutAlike (.next s) (.next t)
  | stopped (f g : Fault) : OutAlike (.fault f) (.fault g)

/-! ### Operations -/

section
variable {s t : State}

theorem State.Together.raise (h : s.Together t) (e : Cause) : OutAlike (.next (s.raise e)) (.next (t.raise e)) :=
  .ended ⟨rfl, rfl, h.left.2, h.right.2, by rw [State.raise_response, State.raise_response, h.refused]⟩

theorem State.Together.finish (h : s.Together t) : OutAlike (.next s.finish) (.next t.finish) :=
  .ended ⟨rfl, rfl, h.left.2, h.right.2, by rw [State.finish_response, State.finish_response, h.view]⟩

theorem State.InBlock.endBlock (h : s.InBlock t) : OutAlike (.next s.endBlock) (.next t.endBlock) := by
  cases hs : s.final
  · rw [State.endBlock_of_not_final hs, State.endBlock_of_not_final (h.final.symm.trans hs)]
    exact .running (.blockHeader h.together.map rfl rfl)
  · rw [State.endBlock_of_final hs, State.endBlock_of_final (h.final.symm.trans hs)]
    exact h.together.finish

theorem State.Together.consume {n : Nat} {k l : State → Out} (h : s.Together t)
    (hk : (s.advance n).Together (t.advance n) → OutAlike (k (s.advance n)) (l (t.advance n))) :
    OutAlike (s.consume n k) (t.consume n l) := by
  unfold State.consume
  rw [h.c, h.inN]
  split
  · exact hk (h.advance n)
  · exact h.raise _

theorem State.InBlock.consume {n : Nat} {k l : State → Out} (h : s.InBlock t)
    (hk : (s.advance n).InBlock (t.advance n) → OutAlike (k (s.advance n)) (l (t.advance n))) :
    OutAlike (s.consume n k) (t.consume n l) :=
  h.together.consume fun h1 => hk ⟨h1, h.final⟩

/-- Where the header's bits are there, both blocks are the last one or both are not. -/
theorem State.Together.blockHeader {final : Bool} {k l : State → Out} (h : s.Together t)
    (hk : (State.advance { s.advance 1 with final := final } 2).InBlock (State.advance { t.advance 1 with final := final } 2) →
      OutAlike (k (State.advance { s.advance 1 with final := final } 2))
        (l (State.advance { t.advance 1 with final := final } 2))) :
    OutAlike (s.blockHeader final k) (t.blockHeader final l) :=
  h.consume fun h1 => State.Together.consume h1.map fun h2 => hk ⟨h2, rfl⟩

/-! ### Stored blocks (42 R504 to R514) -/

theorem State.InBlock.alignToByte (h : s.InBlock t) : s.alignToByte.InBlock t.alignToByte :=
  h.map fun w => { w with c := 8 * ((w.c + 7) / 8) }

theorem State.InBlock.nextByte (h : s.InBlock t) : s.nextByte.InBlock t.nextByte :=
  h.map fun w => { w with c := w.c + 8 }

theorem State.InBlock.emit (h : s.InBlock t) (b : Byte) : (s.emit b).InBlock (t.emit b) :=
  h.map fun w => { w with out := Memory.write w.out w.outNext.toNat b, outNext := w.outNext + 1 }

theorem State.InBlock.thisByte (h : s.InBlock t) : s.thisByte = t.thisByte := by
  rw [State.thisByte, State.thisByte, h.together.inBuf, h.together.c]

theorem State.InBlock.copyStored (n : Nat) (h : s.InBlock t) :
    (State.copyStored n s).InBlock (State.copyStored n t) := by
  induction n generalizing s t with
  | zero => exact h
  | succ n ih =>
    rw [State.copyStored, State.copyStored, h.thisByte]
    exact ih (h.emit _).nextByte

theorem State.InBlock.storedData (h : s.InBlock t) (len nlen : BitVec 16) :
    OutAlike (s.storedData len nlen) (t.storedData len nlen) := by
  unfold State.storedData
  rw [h.together.inN, h.together.c, h.together.outN, h.together.outNext]
  split
  · exact h.together.raise _
  split
  · exact h.together.raise _
  split
  · exact h.together.raise _
  · exact (h.copyStored _).endBlock

theorem State.InBlock.readHalf {k l : BitVec 16 → State → Out} (h : s.InBlock t)
    (hk : ∀ v, s.nextByte.nextByte.InBlock t.nextByte.nextByte →
      OutAlike (k v s.nextByte.nextByte) (l v t.nextByte.nextByte)) : OutAlike (s.readHalf k) (t.readHalf l) := by
  unfold State.readHalf
  rw [h.thisByte, h.nextByte.thisByte]
  exact hk _ h.nextByte.nextByte

theorem State.InBlock.storedBlock (h : s.InBlock t) : OutAlike s.storedBlock t.storedBlock := by
  have ha := h.alignToByte
  unfold State.storedBlock
  dsimp only
  rw [ha.together.inN, ha.together.c]
  split
  · exact ha.together.raise _
  · exact ha.readHalf fun len h1 => h1.readHalf fun nlen h2 => h2.storedData len nlen

/-! ### Builds (42 R521, R529) -/

/-- A code length of 4 bits. -/
theorem le_of_mem_map_toNat {ls : List (BitVec 4)} {l : Nat} (h : l ∈ ls.map BitVec.toNat) : l ≤ 15 := by
  obtain ⟨b, -, rfl⟩ := List.mem_map.mp h
  have := b.isLt
  omega

/-- The codes that the lengths in `lens` give (42 R529). -/
def State.codes (s : State) : Codes := ⟨[], s.litlenLengths, s.offsetLengths⟩

/-- Both builds leave the tables of the codes they were made from. -/
theorem State.hasCodes_of_builds {a b : List Entry} (hlit : s.litlenLengths.length ≤ 288)
    (hoff : s.offsetLengths.length ≤ 32) (ha : buildOffsetTable s.offsetLengths = .ok a)
    (hb : buildLitlenTable s.litlenLengths = .ok b) :
    State.HasCodes s.codes ((s.withOffset a).withLitlen b) :=
  ⟨⟨hlit, fun _ => le_of_mem_map_toNat, b, hb, overlay_take b _, litlenRootBits_toNat s.litlenLengths⟩,
    hoff, fun _ => le_of_mem_map_toNat, a, ha, overlay_take a _⟩

/-- A failed build ends both commands with its cause, whatever it leaves in the tables (41 R469). -/
theorem State.Together.failPrecode (h : s.Together t) (e : Cause) : OutAlike (s.failPrecode e) (t.failPrecode e) := by
  obtain ⟨_, _, hs⟩ := s.failPrecode_writes e
  obtain ⟨_, _, ht⟩ := t.failPrecode_writes e
  rw [hs, ht]
  exact State.Together.raise h.map e

theorem State.Together.failOffset (h : s.Together t) (e : Cause) : OutAlike (s.failOffset e) (t.failOffset e) := by
  obtain ⟨_, _, hs⟩ := s.failOffset_writes e
  obtain ⟨_, _, ht⟩ := t.failOffset_writes e
  rw [hs, ht]
  exact State.Together.raise h.map e

theorem State.Together.failLitlen (h : s.Together t) (e : Cause) : OutAlike (s.failLitlen e) (t.failLitlen e) := by
  obtain ⟨_, _, _, hs⟩ := s.failLitlen_writes e
  obtain ⟨_, _, _, ht⟩ := t.failLitlen_writes e
  rw [hs, ht]
  exact State.Together.raise h.map e

theorem State.InBlock.buildCodes (h : s.InBlock t) (litlen : s.litlenLengths = t.litlenLengths)
    (offset : s.offsetLengths = t.offsetLengths) (hlit : s.litlenLengths.length ≤ 288)
    (hoff : s.offsetLengths.length ≤ 32) :
    OutAlike (s.buildCodes fun u => .next { u with phase := .body })
      (t.buildCodes fun u => .next { u with phase := .body }) := by
  have hcodes : s.codes = t.codes := by rw [State.codes, State.codes, litlen, offset]
  unfold State.buildCodes State.buildOffset
  cases ha : buildOffsetTable s.offsetLengths with
  | error e =>
    rw [← offset, ha]
    cases e with
    | overfull | incomplete => exact h.together.failOffset _
    | overflow => exact .stopped _ _
  | ok a =>
    have ha' := ha
    rw [offset] at ha'
    rw [ha']
    show OutAlike ((s.withOffset a).buildLitlen _) ((t.withOffset a).buildLitlen _)
    unfold State.buildLitlen
    rw [State.withOffset_litlenLengths, State.withOffset_litlenLengths]
    cases hb : buildLitlenTable s.litlenLengths with
    | error e =>
      rw [← litlen, hb]
      cases e with
      | overfull | incomplete => exact State.Together.failLitlen h.together.map _
      | overflow => exact .stopped _ _
    | ok b =>
      have hb' := hb
      rw [litlen] at hb'
      rw [hb']
      refine .running (.body ⟨h.map, s.codes, State.hasCodes_of_builds hlit hoff ha hb, ?_⟩ rfl rfl)
      rw [hcodes]
      exact State.hasCodes_of_builds (s := t) (litlen ▸ hlit) (offset ▸ hoff) ha' hb'

end

end Sys2Proof.Machine

/-! PROOFS. States that are alike go on alike in the header of a block: the fixed tables, the counts and the two loops of
a dynamic header (42 R510 to R530). -/

namespace Sys2Proof.Machine
open Sys2Proof

section
variable {s t : State}

/-! ### Fixed blocks (42 R510 to R512) -/

/-- The tables that the flag stands for are those of the fixed code. -/
theorem State.FixedLoaded.hasCodes (h : s.FixedLoaded) : State.HasCodes fixedCodes s := by
  obtain ⟨hoff, hlit, hbits⟩ := h
  refine ⟨⟨by decide +kernel, by decide +kernel, _, hlit, ?_, ?_⟩, by decide, by decide, _, hoff, ?_⟩
  · rw [fixedLitlenTable_length hlit]
  · rw [hbits]
    exact fixedLitlen_rootBits.symm
  · rw [fixedOffsetTable_length hoff]

/-- A fixed block leads to its body with the tables of the fixed code, whether it finds them loaded or builds them. -/
theorem State.LoadedOk.fixedBlock_next (h : s.LoadedOk) : ∃ u, s.fixedBlock = .next u ∧ u.phase = .body ∧
    u.view = s.view ∧ u.Running = s.Running ∧ u.final = s.final ∧ State.HasCodes fixedCodes u := by
  unfold State.fixedBlock
  cases hflag : s.staticCodesLoaded
  · obtain ⟨a, b, ha, hb, hbuild⟩ := s.buildCodes_fixedLengths
      fun s1 => .next { s1 with staticCodesLoaded := true, phase := .body }
    exact ⟨_, (if_neg Bool.false_ne_true).trans hbuild, rfl, rfl, rfl, rfl, (State.fixedLoaded_of_builds ha hb).hasCodes⟩
  · exact ⟨_, rfl, rfl, rfl, rfl, rfl, (h hflag).hasCodes⟩

theorem State.InBlock.fixedBlock (h : s.InBlock t) (hs : s.LoadedOk) (ht : t.LoadedOk) :
    OutAlike s.fixedBlock t.fixedBlock := by
  obtain ⟨u, hu, hup, huv, hur, huf, huc⟩ := hs.fixedBlock_next
  obtain ⟨v, hv, hvp, hvv, hvr, hvf, hvc⟩ := ht.fixedBlock_next
  rw [hu, hv]
  exact .running (.body ⟨h.map id huv hvv hur hvr huf hvf, fixedCodes, huc, hvc⟩ hup hvp)

/-! ### The counts of a dynamic header (42 R515 to R518) -/

theorem State.InBlock.dynamicBlock (h : s.InBlock t) (hlit hdist : BitVec 5) (hclen : BitVec 4) :
    OutAlike (s.dynamicBlock hlit hdist hclen) (t.dynamicBlock hlit hdist hclen) := by
  have h0 : s.refill.InBlock t.refill := h.map
  refine h0.consume fun h1 => State.InBlock.consume h1.map fun h2 => State.InBlock.consume h2.map fun h3 => ?_
  exact .running (.precodeLen ⟨⟨h3.map, rfl, rfl, rfl, rfl⟩, rfl, rfl, fun j hj => absurd hj (Nat.not_lt_zero j)⟩)

/-! ### The loop of precode lengths (42 R520, R521) -/

/-- The 19 precode lengths, in the order they are sent. -/
theorem precodeLens_ext {a b : List (BitVec 3)} (ha : a.length = 19) (hb : b.length = 19)
    (h : ∀ j, j < 19 → a.getD (permAt j) 0 = b.getD (permAt j) 0) : a = b := by
  have hperm : ∀ k < 19, ∃ j < 19, permAt j = k := by decide
  refine List.ext_getElem (ha.trans hb.symm) fun k hk hk' => ?_
  obtain ⟨j, hj, rfl⟩ := hperm k (ha ▸ hk)
  have hj' := h j hj
  rwa [List.getD_eq_getElem _ _ hk, List.getD_eq_getElem _ _ hk'] at hj'

/-- A precode table fills its array (41 R451). -/
theorem overlay_precodeTable {lens : List Nat} {a old : List Entry} (ha : buildPrecodeTable lens = .ok a)
    (hold : old.length = 128) : overlay a old = a := by
  have hlen : a.length = 128 := (buildTable_root (T := 7) (by decide) (by decide)).2 a ha
  rw [overlay, List.drop_of_length_le (by omega), List.append_nil]

theorem State.InHeader.buildPrecode (h : s.InHeader t) (lens : s.precodeLens = t.precodeLens)
    (hs : s.precodeTable.length = 128) (ht : t.precodeTable.length = 128) :
    OutAlike (s.buildPrecode fun u => .next { u with phase := .codeLen, index := 0 })
      (t.buildPrecode fun u => .next { u with phase := .codeLen, index := 0 }) := by
  have hlens : s.precodeLengths = t.precodeLengths := by rw [State.precodeLengths, State.precodeLengths, lens]
  unfold State.buildPrecode
  cases ha : buildPrecodeTable s.precodeLengths with
  | error e =>
    rw [← hlens, ha]
    cases e with
    | overfull | incomplete => exact h.block.together.failPrecode _
    | overflow => exact .stopped _ _
  | ok a =>
    have ha' := ha
    rw [hlens] at ha'
    rw [ha']
    have hsa := overlay_precodeTable ha hs
    have hta := overlay_precodeTable ha ht
    refine .running (.codeLen ⟨⟨h.block.map, h.nlit, h.noff, h.ncl, rfl⟩, rfl, rfl, ⟨?_, ?_, ?_⟩,
      fun j hj => absurd hj (Nat.not_lt_zero j)⟩)
    · exact ha.trans (congrArg _ hsa.symm)
    · exact ha'.trans (congrArg _ hta.symm)
    · exact hsa.trans hta.symm

/-- After a precode length: the lengths written so far are one more, and after the last one all 19 are the same. -/
theorem State.InPrecode.afterPrecodeLen (h : s.InPrecode t) (hs : s.Sized) (ht : t.Sized)
    (hi : s.index ≤ s.ncl.toNat) (hncl : s.ncl.toNat ≤ 19) : OutAlike s.afterPrecodeLen t.afterPrecodeLen := by
  have hheader := h.header
  unfold State.afterPrecodeLen
  rw [← hheader.index, ← hheader.ncl]
  split
  · exact .running (.precodeLen h)
  · next hlast =>
    have hslen := (State.clearPrecodeLens_length (19 - s.ncl.toNat) s.ncl.toNat s).trans hs.precodeLens
    have htlen := (State.clearPrecodeLens_length (19 - s.ncl.toNat) s.ncl.toNat t).trans ht.precodeLens
    have hsame := precodeLens_ext hslen htlen fun j hj => by
      rw [State.clearPrecodeLens_getD hs.precodeLens (by omega) hj,
        State.clearPrecodeLens_getD ht.precodeLens (by omega) hj]
      split
      · rfl
      · exact h.written j (by omega)
    rw [show Config.numPrecodeSyms = 19 from rfl, State.clearPrecodeLens_frame _ _ s,
      State.clearPrecodeLens_frame _ _ t]
    exact State.InHeader.buildPrecode ⟨hheader.block.map, hheader.nlit, hheader.noff, hheader.ncl, hheader.index⟩
      hsame hs.precodeTable ht.precodeTable

theorem State.Sized.withPcl (h : s.Sized) {l : BitVec 3} : (s.withPcl l).Sized :=
  ⟨(List.length_set ..).trans h.precodeLens, h.lens, h.precodeTable, h.litlenTable, h.offsetTable, h.sortedSyms⟩

theorem State.InPrecode.exec_pcl (h : s.InPrecode t) (hs : s.SizesOk) (ht : t.SizesOk) (l : BitVec 3) :
    OutAlike (exec (.pcl l) s) (exec (.pcl l) t) := by
  obtain ⟨⟨hblock, hnlit, hnoff, hncl, hindex⟩, hleft, hright, hwritten⟩ := h
  obtain ⟨-, -, -, hi⟩ := hs.ranged.precodeLen hblock.together.left.1 hleft
  have h19 := hs.ranged.ncl
  have hnext : (s.withPcl l).InPrecode (t.withPcl l) := by
    refine ⟨⟨hblock.map fun w => { w with c := w.c + 3 }, hnlit, hnoff, hncl, congrArg (· + 1) hindex⟩, hleft, hright,
      fun j hj => ?_⟩
    have hj' : j < s.index + 1 := hj
    show (s.precodeLens.set (permAt s.index) l).getD (permAt j) 0 =
      (t.precodeLens.set (permAt t.index) l).getD (permAt j) 0
    rw [← hindex, getD_set_permAt hs.sized.precodeLens (by omega) (by omega),
      getD_set_permAt ht.sized.precodeLens (by omega) (by omega)]
    split
    · rfl
    · exact hwritten j (by omega)
  show OutAlike (execPcl l s) (execPcl l t)
  unfold execPcl
  exact hblock.consume fun _ => hnext.afterPrecodeLen hs.sized.withPcl ht.sized.withPcl hi h19

/-! ### The loop of code lengths (42 R522 to R529) -/

theorem take_eq_of_getD {α : Type} {a b : List α} {d : α} {n : Nat} (hlen : a.length = b.length)
    (h : ∀ j, j < n → a.getD j d = b.getD j d) : a.take n = b.take n := by
  refine List.ext_getElem (by rw [List.length_take, List.length_take, hlen]) fun j hj hj' => ?_
  rw [List.length_take] at hj
  have hab := h j (by omega)
  rw [List.getElem_take, List.getElem_take]
  rwa [List.getD_eq_getElem _ _ (by omega), List.getD_eq_getElem _ _ (by omega)] at hab

theorem State.InLens.advance (h : s.InLens t) {n : Nat} (h1 : (s.advance n).Together (t.advance n)) :
    (s.advance n).InLens (t.advance n) :=
  ⟨⟨⟨h1, h.header.block.final⟩, h.header.nlit, h.header.noff, h.header.ncl, h.header.index⟩, h.left, h.right,
    h.precode, h.written⟩

/-- With all lengths written, those that the two builds read are the same. -/
theorem State.InLens.buildCodes (h : s.InLens t) (hlen : s.lens.length = t.lens.length) (hnlit : s.nlit.toNat ≤ 288)
    (hnoff : s.noff.toNat ≤ 32) (hall : s.index = s.total) :
    OutAlike (s.buildCodes fun u => .next { u with phase := .body })
      (t.buildCodes fun u => .next { u with phase := .body }) := by
  have hwritten := take_eq_of_getD hlen h.written
  rw [hall, State.total] at hwritten
  have hlit : s.lens.take s.nlit.toNat = t.lens.take s.nlit.toNat := by
    have := congrArg (List.take s.nlit.toNat) hwritten
    rwa [List.take_take, List.take_take, Nat.min_eq_left (Nat.le_add_right _ _)] at this
  have hoff : (s.lens.drop s.nlit.toNat).take s.noff.toNat = (t.lens.drop s.nlit.toNat).take s.noff.toNat := by
    rw [List.take_drop, List.take_drop, hwritten]
  refine h.header.block.buildCodes ?_ ?_ ?_ ?_
  · rw [State.litlenLengths, State.litlenLengths, ← h.header.nlit, hlit]
  · rw [State.offsetLengths, State.offsetLengths, ← h.header.nlit, ← h.header.noff, hoff]
  · rw [State.litlenLengths, List.length_map]
    exact (List.length_take_le _ _).trans hnlit
  · rw [State.offsetLengths, List.length_map]
    exact (List.length_take_le _ _).trans hnoff

/-- What a code-length symbol of the loop finds: room for its run in both arrays (42 R528). -/
structure State.RoomForRun (s t : State) : Prop where
  left  : s.lens.length = 457
  right : t.lens.length = 457
  nlit  : s.nlit.toNat ≤ 288
  noff  : s.noff.toNat ≤ 32
  index : s.index < 320

theorem State.InLens.writeRun (h : s.InLens t) (hroom : s.RoomForRun t) {r : Nat} (hr : r ≤ 138) (v : BitVec 4) :
    OutAlike (s.writeRun r v) (t.writeRun r v) := by
  obtain ⟨⟨hblock, hnlit, hnoff, hncl, hindex⟩, hleft, hright, hprecode, hwritten⟩ := h
  have hindex' := hroom.index
  have hs := hroom.left
  have ht := hroom.right
  have hlens : (s.withRun r v).InLens (t.withRun r v) := by
    refine ⟨⟨hblock.map, hnlit, hnoff, hncl, congrArg (· + r) hindex⟩, hleft, hright, hprecode, fun j hj => ?_⟩
    have hj' : j < s.index + r := hj
    show (setRun v r s.index s.lens).getD j 0 = (setRun v r t.index t.lens).getD j 0
    rw [← hindex, setRun_getD v 0 (by omega), setRun_getD v 0 (by omega)]
    split
    · rfl
    · exact hwritten j (by omega)
  show OutAlike (s.withRun r v).afterLens (t.withRun r v).afterLens
  unfold State.afterLens
  rw [← hlens.header.index, State.total, State.total, ← hlens.header.nlit, ← hlens.header.noff]
  split
  · exact .running (.codeLen hlens)
  split
  · exact hlens.header.block.together.raise _
  · next hne =>
    refine hlens.buildCodes ?_ hroom.nlit hroom.noff (not_not.mp hne)
    exact (setRun_length ..).trans ((hs.trans ht.symm).trans (setRun_length ..).symm)

end

end Sys2Proof.Machine

/-! PROOFS. States that are alike execute every element of their phase alike (42 R500 to R530, 43 R600 to R613). -/

namespace Sys2Proof.Machine
open Sys2Proof

/-! ### The elements of a phase -/

/-- The elements that a phase decodes (44 R704, 42 R520, R522, 43 R600, R611); length and offset symbols by their
numbers. -/
inductive Phase.Decodes : Phase → Instr → Prop
  | blockStored (final : Bool) : Decodes .blockHeader (.blockStored final)
  | blockFixed (final : Bool) : Decodes .blockHeader (.blockFixed final)
  | blockDynamic (final : Bool) (hlit hdist : BitVec 5) (hclen : BitVec 4) :
      Decodes .blockHeader (.blockDynamic final hlit hdist hclen)
  | blockReserved (final : Bool) : Decodes .blockHeader (.blockReserved final)
  | pcl (l : BitVec 3) : Decodes .precodeLen (.pcl l)
  | cl (cw n : BitVec 4) : Decodes .codeLen (.cl cw n)
  | clRepPrev (cw : BitVec 4) (x : BitVec 2) : Decodes .codeLen (.clRepPrev cw x)
  | clZero (cw : BitVec 4) (x : BitVec 3) : Decodes .codeLen (.clZero cw x)
  | clZeroLong (cw : BitVec 4) (x : BitVec 7) : Decodes .codeLen (.clZeroLong cw x)
  | lit (cw : BitVec 4) (b : Byte) : Decodes .body (.lit cw b)
  | eob (cw : BitVec 4) : Decodes .body (.eob cw)
  | length {sym v : Nat} {cw : BitVec 4} {i : Instr} (h : lenInstr sym cw v = some i) : Decodes .body i
  | offset {sym v : Nat} {cw : BitVec 4} {i : Instr} (h : distInstr sym cw v = some i) : Decodes .offset i

theorem decodeBlockHeader_decodes (inb : List Byte) (c : Nat) :
    Phase.blockHeader.Decodes (decodeBlockHeader inb c) := by
  unfold decodeBlockHeader
  split
  · exact .blockStored _
  · exact .blockFixed _
  · exact .blockDynamic _ _ _ _
  · exact .blockReserved _

theorem decodePresym_decodes {e : Entry} {inb : List Byte} {c : Nat} {i : Instr} (h : decodePresym e inb c = .ok i) :
    Phase.codeLen.Decodes i := by
  simp only [decodePresym] at h
  split at h
  · cases h; exact .cl _ _
  · split at h <;> cases h
    · exact .clRepPrev _ _
    · exact .clZero _ _
    · exact .clZeroLong _ _

theorem decodeLitlen_decodes {e : Entry} {inb : List Byte} {c : Nat} {i : Instr} (h : decodeLitlen e inb c = .ok i) :
    Phase.body.Decodes i := by
  unfold decodeLitlen at h
  split at h
  · cases h; exact .lit _ _
  split at h
  · cases h; exact .eob _
  split at h
  · split at h
    · cases h; exact .length (sym := 287) (v := 0) rfl
    · split at h <;> cases h
      exact .length (sym := 286) (v := 0) rfl
  · split at h <;> cases h
    exact .length ‹_›

theorem decodeOffset_decodes {e : Entry} {inb : List Byte} {c : Nat} {i : Instr} (h : decodeOffset e inb c = .ok i) :
    Phase.offset.Decodes i := by
  unfold decodeOffset at h
  split at h
  · split at h
    · cases h; exact .offset (sym := 31) (v := 0) rfl
    · split at h <;> cases h
      exact .offset (sym := 30) (v := 0) rfl
  · split at h <;> cases h
    exact .offset ‹_›

/-! ### Elements -/

theorem exec_cl (s : State) (cw n : BitVec 4) :
    exec (.cl cw n) s = s.consume cw.toNat fun u => u.writeRun 1 n := rfl

theorem exec_clRepPrev (s : State) (cw : BitVec 4) (x : BitVec 2) :
    exec (.clRepPrev cw x) s = s.consume cw.toNat fun u =>
      if u.index = 0 then .next (u.raise .repeatNoPrevious)
      else u.consume 2 fun w => w.writeRun (3 + x.toNat) (w.lens.getD (w.index - 1) 0) := rfl

theorem exec_clZero (s : State) (cw : BitVec 4) (x : BitVec 3) :
    exec (.clZero cw x) s = s.consume cw.toNat fun u => u.consume 3 fun w => w.writeRun (3 + x.toNat) 0 := rfl

theorem exec_clZeroLong (s : State) (cw : BitVec 4) (x : BitVec 7) :
    exec (.clZeroLong cw x) s = s.consume cw.toNat fun u => u.consume 7 fun w => w.writeRun (11 + x.toNat) 0 := rfl

section
variable {s t : State} {i : Instr}

theorem State.Together.exec_header (h : s.Together t) (hs : s.LoadedOk) (ht : t.LoadedOk)
    (hi : Phase.blockHeader.Decodes i) : OutAlike (exec i s) (exec i t) := by
  cases hi with
  | blockStored final => exact h.blockHeader fun h1 => h1.storedBlock
  | blockFixed final => exact h.blockHeader fun h1 => h1.fixedBlock hs.congr ht.congr
  | blockDynamic final hlit hdist hclen => exact h.blockHeader fun h1 => h1.dynamicBlock hlit hdist hclen
  | blockReserved final => exact h.blockHeader fun h1 => h1.together.raise _

theorem State.SizesOk.roomForRun (hs : s.SizesOk) (ht : t.SizesOk) (hb : s.busy = true) (hp : s.phase = .codeLen) :
    s.RoomForRun t := by
  obtain ⟨-, -, hi⟩ := hs.ranged.codeLen hb hp
  have hnlit := hs.ranged.nlit
  have hnoff := hs.ranged.noff
  rw [State.total] at hi
  exact ⟨hs.sized.lens, ht.sized.lens, hnlit, hnoff, by omega⟩

theorem State.RoomForRun.advance (h : s.RoomForRun t) (n : Nat) : (s.advance n).RoomForRun (t.advance n) :=
  ⟨h.left, h.right, h.nlit, h.noff, h.index⟩

/-- A consume in the loop of code lengths. -/
theorem State.InLens.consume {n : Nat} {k l : State → Out} (h : s.InLens t) (hroom : s.RoomForRun t)
    (hk : (s.advance n).InLens (t.advance n) → (s.advance n).RoomForRun (t.advance n) →
      OutAlike (k (s.advance n)) (l (t.advance n))) : OutAlike (s.consume n k) (t.consume n l) :=
  h.header.block.together.consume fun h1 => hk (h.advance h1) (hroom.advance n)

theorem State.InLens.exec_presym (h : s.InLens t) (hroom : s.RoomForRun t) (hi : Phase.codeLen.Decodes i) :
    OutAlike (exec i s) (exec i t) := by
  cases hi with
  | cl cw n =>
    rw [exec_cl, exec_cl]
    exact h.consume hroom fun h1 hr => h1.writeRun hr (by decide) n
  | clRepPrev cw x =>
    have hx := x.isLt
    rw [exec_clRepPrev, exec_clRepPrev]
    refine h.consume hroom fun h1 hr1 => ?_
    rw [← h1.header.index]
    split
    · exact h1.header.block.together.raise _
    · next hne =>
      refine h1.consume hr1 fun h2 hr2 => ?_
      rw [← h2.header.index, ← h2.written _ (Nat.sub_one_lt hne)]
      exact h2.writeRun hr2 (by omega) _
  | clZero cw x =>
    have hx := x.isLt
    rw [exec_clZero, exec_clZero]
    exact h.consume hroom fun h1 hr1 => h1.consume hr1 fun h2 hr2 => h2.writeRun hr2 (by omega) 0
  | clZeroLong cw x =>
    have hx := x.isLt
    rw [exec_clZeroLong, exec_clZeroLong]
    exact h.consume hroom fun h1 hr1 => h1.consume hr1 fun h2 hr2 => h2.writeRun hr2 (by omega) 0

/-- A consume in a body. -/
theorem State.InBody.consume {n : Nat} {k l : State → Out} (h : s.InBody t)
    (hk : (s.advance n).InBody (t.advance n) → OutAlike (k (s.advance n)) (l (t.advance n))) :
    OutAlike (s.consume n k) (t.consume n l) :=
  h.block.consume fun h1 => hk ⟨h1, h.codes⟩

theorem State.InBody.lengthElement (h : s.InBody t) (bits length : Nat) :
    OutAlike (s.lengthElement bits length) (t.lengthElement bits length) :=
  h.consume fun h1 => .running (.offset ⟨h1.block.map, h1.codes⟩ rfl rfl rfl)

theorem State.InBody.exec_of_lenInstr {sym v : Nat} {cw : BitVec 4} (h : s.InBody t) (hi : lenInstr sym cw v = some i) :
    OutAlike (exec i s) (exec i t) := by
  unfold lenInstr at hi
  split at hi <;> cases hi
  case h_30 | h_31 => exact h.block.together.raise .reservedLitlen
  all_goals exact h.lengthElement _ _

theorem State.InBody.exec_litlen (h : s.InBody t) (hs : s.phase = .body) (ht : t.phase = .body)
    (hi : Phase.body.Decodes i) : OutAlike (exec i s) (exec i t) := by
  cases hi with
  | lit cw b =>
    rw [exec_lit, exec_lit]
    refine h.consume fun h1 => ?_
    rw [h1.block.together.outNext, h1.block.together.outN]
    split
    · exact h1.block.together.raise _
    · exact .running (.body ⟨h1.block.emit b, h1.codes⟩ hs ht)
  | eob cw =>
    rw [exec_eob, exec_eob]
    exact h.consume fun h1 => h1.block.endBlock
  | length hi => exact h.exec_of_lenInstr hi

/-! ### The second half of a match (43 R609 to R613) -/

/-- A copy reads and writes OUT and `out_next` only. -/
theorem State.copyMatch_congr {offset : Nat} (n : Nat) (out : s.out = t.out) (outNext : s.outNext = t.outNext) :
    (State.copyMatch offset n s).map (fun u => (u.out, u.outNext)) =
      (State.copyMatch offset n t).map fun u => (u.out, u.outNext) := by
  induction n generalizing s t with
  | zero => exact congrArg some (Prod.ext out outNext)
  | succ n ih =>
    simp only [State.copyMatch]
    rw [out, outNext]
    cases Memory.read t.out (t.outNext.toNat - offset) with
    | none => rfl
    | some b => exact ih (by rw [emit_out, emit_out, out, outNext]) (by rw [emit_outNext, emit_outNext, outNext])

theorem State.InBody.doMatch (h : s.InBody t) (matchLen : s.matchLen = t.matchLen) (offset : Nat) :
    OutAlike (s.doMatch offset) (t.doMatch offset) := by
  have htogether := h.block.together
  have hcopy := State.copyMatch_congr (offset := offset) s.matchLen htogether.out htogether.outNext
  unfold State.doMatch
  rw [← htogether.outN, ← htogether.outNext, ← matchLen]
  split
  · exact htogether.raise _
  split
  · exact htogether.raise _
  · cases hu : State.copyMatch offset s.matchLen s with
    | none =>
      rw [hu, Option.map_none, eq_comm, Option.map_eq_none_iff] at hcopy
      rw [hcopy]
      exact .stopped _ _
    | some u =>
      rw [hu, Option.map_some, eq_comm, Option.map_eq_some_iff] at hcopy
      obtain ⟨v, hv, hsame⟩ := hcopy
      obtain ⟨hout, hnext⟩ := Prod.mk.inj hsame
      rw [hv]
      refine .running (.body ?_ rfl rfl)
      rw [State.copyMatch_frame hu, State.copyMatch_frame hv, hout, hnext]
      exact ⟨h.block.map fun w => { w with out := u.out, outNext := u.outNext }, h.codes⟩

theorem State.InBody.offsetElement (h : s.InBody t) (matchLen : s.matchLen = t.matchLen) (bits offset : Nat) :
    OutAlike (s.offsetElement bits offset) (t.offsetElement bits offset) :=
  h.consume fun h1 => h1.doMatch matchLen offset

theorem State.InBody.exec_offset (h : s.InBody t) (matchLen : s.matchLen = t.matchLen)
    (hi : Phase.offset.Decodes i) : OutAlike (exec i s) (exec i t) := by
  cases hi with
  | offset hi =>
    unfold distInstr at hi
    split at hi <;> cases hi
    case h_31 | h_32 => exact h.block.together.raise .reservedOffset
    all_goals exact h.offsetElement matchLen _ _

/-- Alike states execute an element of their phase alike. -/
theorem State.Alike.exec (h : s.Alike t) (hs : s.SizesOk) (ht : t.SizesOk) (hls : s.LoadedOk) (hlt : t.LoadedOk)
    (hi : s.phase.Decodes i) : OutAlike (exec i s) (exec i t) := by
  cases h with
  | blockHeader h left right => exact h.exec_header hls hlt (left ▸ hi)
  | precodeLen h =>
    rw [h.left] at hi
    cases hi with
    | pcl l => exact h.exec_pcl hs ht l
  | codeLen h =>
    exact h.exec_presym (hs.roomForRun ht h.header.block.together.left.1 h.left) (h.left ▸ hi)
  | body h left right => exact h.exec_litlen left right (left ▸ hi)
  | offset h left right matchLen => exact h.exec_offset matchLen (left ▸ hi)

end

end Sys2Proof.Machine

/-! PROOFS. A step takes states that are alike to outcomes that are alike, and so it keeps the tables in use, and with them
every invariant of the model (44 R711, 70 R909). -/

namespace Sys2Proof.Machine
open Sys2Proof

/-! ### Fetching -/

section
variable {s t u v : State}

/-- What is fetched in two states that are alike: one element, an overread of both, or no element in either. -/
inductive FetchAlike (s t : State) : Fetched → Fetched → Prop
  | instr {u v : State} {i : Instr} (hu : s.FetchedFrom u) (hv : t.FetchedFrom v) (view : u.view = v.view)
      (hi : s.phase.Decodes i) : FetchAlike s t (.instr i u) (.instr i v)
  | raised {u v : State} (hu : s.FetchedFrom u) (hv : t.FetchedFrom v) (view : u.view = v.view) :
      FetchAlike s t (.raised (u.raise .overread)) (.raised (v.raise .overread))
  | stuck (f g : Fault) : FetchAlike s t (.stuck f) (.stuck g)

theorem FetchAlike.of_decoded {d d' : Except DecodeError Instr} (hu : s.FetchedFrom u) (hv : t.FetchedFrom v)
    (view : u.view = v.view) (hd : d = d') (h : ∀ i, d = .ok i → s.phase.Decodes i) :
    FetchAlike s t (.ofDecoded d u) (.ofDecoded d' v) := by
  subst hd
  cases d with
  | ok i => exact .instr hu hv view (h i rfl)
  | error e => exact .stuck _ _

theorem peek_eq_of_view (view : u.view = v.view) (n : Nat) : u.peek n = v.peek n :=
  congrArg (fun w : View => peekBits w.inBuf w.c n) view

/-- Two arrays that begin with one built table hold the same entry at every root index, and behind a pointer there at
every index of its subtable (41 R466). -/
theorem getD_eq_of_resolves {mk : Nat → Nat → Entry} {N T j : Nat} {a table table' : List Entry}
    (hres : Resolves mk N T a j) (ht : table.take a.length = a) (ht' : table'.take a.length = a)
    (hsize : a.length ≤ 2 ^ 15) (hT : T ≤ 15) (hmk : ∀ sym n, sym < N → n ≤ 15 → (mk sym n).isPointer = false) :
    table.getD j default = table'.getD j default ∧
      ((table.getD j default).isPointer = true → ∀ k, k < 2 ^ (table.getD j default).cwbits.toNat →
        table.getD ((table.getD j default).subStart + k) default =
          table'.getD ((table.getD j default).subStart + k) default) := by
  obtain ⟨sym, n, hsym, hn, hj⟩ | ⟨start, bits, hj, -, hbits, hsub⟩ := hres
  · rw [getD_of_take_eq ht hj, getD_of_take_eq ht' hj, hmk sym n hsym hn]
    exact ⟨rfl, nofun⟩
  · have hstart : start < 2 ^ 15 := Nat.lt_of_lt_of_le (hsub 0 (Nat.two_pow_pos _)).lt hsize
    rw [getD_of_take_eq ht hj, getD_of_take_eq ht' hj, pointerEntry_subStart hstart hbits hT,
      pointerEntry_cwbits hbits hT]
    refine ⟨rfl, fun _ k hk => ?_⟩
    obtain ⟨sym, n, -, -, hk⟩ := hsub k hk
    rw [getD_of_take_eq ht hk, getD_of_take_eq ht' hk]

/-- 43 R604: two lookups in arrays that begin with one built table find the same entry at the same cursor. -/
theorem FetchAlike.of_lookup {mk : Nat → Nat → Entry} {N T : Nat} {a table table' : List Entry}
    {k l : Entry → State → Fetched} (hu : s.FetchedFrom u) (hv : t.FetchedFrom v) (view : u.view = v.view)
    (hres : ∀ j, j < 2 ^ T → Resolves mk N T a j) (ht : table.take a.length = a) (ht' : table'.take a.length = a)
    (hsize : a.length ≤ 2 ^ 15) (hT : T ≤ 15) (hmk : ∀ sym n, sym < N → n ≤ 15 → (mk sym n).isPointer = false)
    (hk : ∀ e u v, s.FetchedFrom u → t.FetchedFrom v → u.view = v.view → FetchAlike s t (k e u) (l e v)) :
    FetchAlike s t (u.lookup table T k) (v.lookup table' T l) := by
  have hc : u.c = v.c := congrArg View.c view
  have hin : u.inN = v.inN := congrArg (fun w : View => w.inBuf.length) view
  obtain ⟨hroot, hsub⟩ := getD_eq_of_resolves (hres _ (peekBits_lt u.inBuf u.c T)) ht ht' hsize hT hmk
  unfold State.lookup
  rw [← peek_eq_of_view view T]
  dsimp only [State.peek] at hroot hsub ⊢
  rw [← hroot, ← hc, ← hin]
  generalize table.getD (peekBits u.inBuf u.c T) default = e at hsub ⊢
  split
  · next hp =>
    split
    · next hle =>
      have hle' : v.c + e.nbits ≤ 8 * v.inN := hc ▸ hin ▸ hle
      have view' : (u.advance e.nbits).view = (v.advance e.nbits).view :=
        congrArg (fun w : View => { w with c := w.c + e.nbits }) view
      have hpeek := peek_eq_of_view view' e.cwbits.toNat
      dsimp only [State.peek] at hpeek
      rw [← hpeek, ← hsub hp _ (peekBits_lt _ _ _)]
      exact hk _ _ _ (hu.advance hle) (hv.advance hle') view'
    · exact .raised hu hv view
  · exact hk _ _ _ hu hv view

theorem State.refillForOffset_view (s : State) : s.refillForOffset.view = s.view := by
  unfold State.refillForOffset
  split <;> rfl

/-- In a body, the lookup of a lit/len symbol. -/
theorem State.InBody.fetch_body (h : s.InBody t) (hs : s.phase = .body) (ht : t.phase = .body) :
    FetchAlike s t (fetch s) (fetch t) := by
  obtain ⟨k, ⟨⟨hlen, -, a, ha, htake, hbits⟩, -⟩, ⟨-, -, b, hb, htake', hbits'⟩, -⟩ := h.codes
  obtain rfl : a = b := Except.ok.inj (ha.symm.trans hb)
  have hsize : a.length ≤ 2 ^ 15 := (buildLitlenTable_length_le ha).trans (by decide)
  rw [fetch_of_body hs, fetch_of_body ht, hbits, hbits']
  refine .of_lookup (mk := litlenEntry) (N := 288) s.refill_fetchedFrom t.refill_fetchedFrom h.block.together.view
    (fun j => buildLitlenTable_resolves ha hlen) htake htake' hsize ((litlenRootBits_le _).trans (by decide))
    (fun _ _ => litlenEntry_not_isPointer) fun e u v hu hv view => ?_
  refine .of_decoded hu hv view ?_ fun i hi => hs ▸ decodeLitlen_decodes hi
  exact congrArg (fun w : View => decodeLitlen e w.inBuf w.c) view

/-- In a match, the lookup of its offset symbol. -/
theorem State.InBody.fetch_offset (h : s.InBody t) (hs : s.phase = .offset) (ht : t.phase = .offset) :
    FetchAlike s t (fetch s) (fetch t) := by
  obtain ⟨k, ⟨-, hlen, -, a, ha, htake⟩, -, -, -, b, hb, htake'⟩ := h.codes
  obtain rfl : a = b := Except.ok.inj (ha.symm.trans hb)
  have hsize : a.length ≤ 2 ^ 15 := (buildOffsetTable_length_le ha).trans (by decide)
  have view : s.refillForOffset.view = t.refillForOffset.view := by
    rw [State.refillForOffset_view, State.refillForOffset_view, h.block.together.view]
  rw [fetch_of_offset hs, fetch_of_offset ht]
  refine .of_lookup (mk := offsetEntry) (N := 32) (T := 8) s.refillForOffset_fetchedFrom t.refillForOffset_fetchedFrom view
    (fun j => buildOffsetTable_resolves ha hlen) htake htake' hsize (by decide)
    (fun _ _ _ => offsetEntry_not_isPointer) fun e u v hu hv view => ?_
  refine .of_decoded hu hv view ?_ fun i hi => hs ▸ decodeOffset_decodes hi
  exact congrArg (fun w : View => decodeOffset e w.inBuf w.c) view

theorem State.Alike.fetch (h : s.Alike t) : FetchAlike s t (fetch s) (fetch t) := by
  cases h with
  | blockHeader h left right =>
    rw [fetch_of_blockHeader left, fetch_of_blockHeader right, h.inBuf, h.c]
    exact .instr s.refill_fetchedFrom t.refill_fetchedFrom h.view (left ▸ decodeBlockHeader_decodes _ _)
  | precodeLen h =>
    have htogether := h.header.block.together
    rw [fetch_of_precodeLen h.left, fetch_of_precodeLen h.right, htogether.inBuf, htogether.c]
    exact .instr s.refill_fetchedFrom t.refill_fetchedFrom htogether.view (h.left ▸ .pcl _)
  | codeLen h =>
    have htogether := h.header.block.together
    obtain ⟨-, -, htable⟩ := h.precode
    rw [fetch_of_codeLen h.left, fetch_of_codeLen h.right]
    refine .of_decoded s.refill_fetchedFrom t.refill_fetchedFrom htogether.view ?_ fun i hi =>
      h.left ▸ decodePresym_decodes hi
    rw [htable, peek_eq_of_view htogether.view 7, htogether.inBuf, htogether.c]
  | body h left right => exact h.fetch_body left right
  | offset h left right matchLen => exact h.fetch_offset left right

/-! ### Steps -/

theorem State.Alike.together (h : s.Alike t) : s.Together t := by
  cases h with
  | blockHeader h left right => exact h
  | precodeLen h => exact h.header.block.together
  | codeLen h => exact h.header.block.together
  | body h left right => exact h.block.together
  | offset h left right matchLen => exact h.block.together

/-- Fetching moves the cursor and the registers only. -/
theorem State.Alike.fetchedFrom (h : s.Alike t) (hu : s.FetchedFrom u) (hv : t.FetchedFrom v)
    (view : u.view = v.view) : u.Alike v := by
  have htogether : u.Together v := by
    obtain ⟨c, dp, -, -⟩ := hu
    obtain ⟨c', dp', -, -⟩ := hv
    exact ⟨view, h.together.left, h.together.right⟩
  obtain ⟨c, dp, -, -⟩ := hu
  obtain ⟨c', dp', -, -⟩ := hv
  cases h with
  | blockHeader h left right => exact .blockHeader htogether left right
  | precodeLen h =>
    obtain ⟨⟨⟨-, hfinal⟩, hnlit, hnoff, hncl, hindex⟩, hleft, hright, hwritten⟩ := h
    exact .precodeLen ⟨⟨⟨htogether, hfinal⟩, hnlit, hnoff, hncl, hindex⟩, hleft, hright, hwritten⟩
  | codeLen h =>
    obtain ⟨⟨⟨-, hfinal⟩, hnlit, hnoff, hncl, hindex⟩, hleft, hright, hprecode, hwritten⟩ := h
    exact .codeLen ⟨⟨⟨htogether, hfinal⟩, hnlit, hnoff, hncl, hindex⟩, hleft, hright, hprecode, hwritten⟩
  | body h left right => exact .body ⟨⟨htogether, h.block.final⟩, h.codes⟩ left right
  | offset h left right matchLen => exact .offset ⟨⟨htogether, h.block.final⟩, h.codes⟩ left right matchLen

theorem step_of_fetch_stuck {f : Fault} (hport : s.port = none) (hb : s.busy = true) (hf : fetch s = .stuck f) :
    step s = .fault f := by
  simp [step, hport, hb, hf]

/-- Alike states step alike: they fetch the same element, and execute it alike. -/
theorem State.Alike.step (h : s.Alike t) (hs : s.SizesOk) (ht : t.SizesOk) (hfs : s.FlagOk) (hft : t.FlagOk) :
    OutAlike (step s) (step t) := by
  obtain ⟨-, ⟨hb, hport⟩, ⟨hb', hport'⟩⟩ := h.together
  have hfetch := h.fetch
  generalize hf : Machine.fetch s = f at hfetch
  generalize hg : Machine.fetch t = g at hfetch
  cases hfetch with
  | instr hu hv view hi =>
    rw [step_of_fetch hport hb hf, step_of_fetch hport' hb' hg]
    exact (h.fetchedFrom hu hv view).exec (hs.fetchedFrom hu) (ht.fetchedFrom hv) (hfs.fetchedFrom hu).loaded
      (hft.fetchedFrom hv).loaded (hu.phase ▸ hi)
  | raised hu hv view =>
    rw [step_of_fetch_raised hport hb hf, step_of_fetch_raised hport' hb' hg]
    exact (h.fetchedFrom hu hv view).together.raise _
  | stuck f g =>
    rw [step_of_fetch_stuck hport hb hf, step_of_fetch_stuck hport' hb' hg]
    exact .stopped f g

end

/-! ### The tables in use (70 R909) -/

section
variable {s t : State}

theorem State.Inv.sizesOk (h : s.Inv) : s.SizesOk := ⟨h.sized, h.ranged⟩

/-- A state that keeps the invariants is alike to itself: it has the tables that its phase looks up in. -/
theorem State.Inv.alike (h : s.Inv) (hs : s.Running) : s.Alike s := by
  have htogether : s.Together s := ⟨rfl, hs, hs⟩
  have hblock : s.InBlock s := ⟨htogether, rfl⟩
  have hheader : s.InHeader s := ⟨hblock, rfl, rfl, rfl, rfl⟩
  have hbody (hp : s.phase = .body ∨ s.phase = .offset) : s.InBody s := by
    obtain ⟨⟨offset, a, hoff, hoff15, ha, htake⟩, litlen, b, hlit, hlit15, hb, htake', hbits⟩ := h.tables.body hs.1 hp
    have hcodes : State.HasCodes ⟨[], litlen, offset⟩ s :=
      ⟨⟨hlit, hlit15, b, hb, htake', hbits⟩, hoff, hoff15, a, ha, htake⟩
    exact ⟨hblock, _, hcodes, hcodes⟩
  cases hp : s.phase with
  | blockHeader => exact .blockHeader htogether hp hp
  | precodeLen => exact .precodeLen ⟨hheader, hp, hp, fun _ _ => rfl⟩
  | codeLen =>
    have hprecode := h.tables.precode hs.1 hp
    exact .codeLen ⟨hheader, hp, hp, ⟨hprecode, hprecode, rfl⟩, fun _ _ => rfl⟩
  | body => exact .body (hbody (.inl hp)) hp hp
  | offset => exact .offset (hbody (.inr hp)) hp hp rfl

theorem State.tablesBuilt_of_idle (hb : s.busy = false) : s.TablesBuilt :=
  ⟨fun hb' => absurd (hb.symm.trans hb') Bool.false_ne_true, fun hb' => absurd (hb.symm.trans hb') Bool.false_ne_true⟩

theorem State.tablesBuilt_of_phase (hp : s.phase = .blockHeader ∨ s.phase = .precodeLen) : s.TablesBuilt :=
  ⟨fun _ hp' => by rw [hp'] at hp; exact absurd hp (by decide),
    fun _ hp' => by rcases hp with hp | hp <;> rw [hp] at hp' <;> exact absurd hp' (by decide)⟩

theorem State.InBody.tablesBuilt (h : s.InBody t) (hp : s.phase ≠ .codeLen) : s.TablesBuilt := by
  obtain ⟨k, ⟨⟨hlit, hlit15, b, hb, htake', hbits⟩, hoff, hoff15, a, ha, htake⟩, -⟩ := h.codes
  exact ⟨fun _ hp' => absurd hp' hp, fun _ _ =>
    ⟨⟨_, a, hoff, hoff15, ha, htake⟩, _, b, hlit, hlit15, hb, htake', hbits⟩⟩

/-- What states that are alike have in common are tables that a build gave. -/
theorem State.Alike.tablesBuilt (h : s.Alike t) : s.TablesBuilt := by
  cases h with
  | blockHeader h left right => exact State.tablesBuilt_of_phase (.inl left)
  | precodeLen h => exact State.tablesBuilt_of_phase (.inr h.left)
  | codeLen h =>
    obtain ⟨hprecode, -, -⟩ := h.precode
    exact ⟨fun _ _ => hprecode, fun _ hp => by rw [h.left] at hp; exact absurd hp (by decide)⟩
  | body h left right => exact h.tablesBuilt (by rw [left]; decide)
  | offset h left right matchLen => exact h.tablesBuilt (by rw [left]; decide)

/-- A running command's step leaves tables in use that a build gave, and the port empty. -/
theorem State.Inv.step_running (h : s.Inv) (hs : s.Running) :
    Yields (fun u => u.TablesBuilt ∧ u.port = none) (step s) := by
  intro u hu
  have halike := (h.alike hs).step h.sizesOk h.sizesOk h.flag h.flag
  rw [hu] at halike
  cases halike with
  | running h => exact ⟨h.tablesBuilt, h.together.left.2⟩
  | ended h => exact ⟨State.tablesBuilt_of_idle h.busyLeft, h.portLeft⟩

/-- A step leaves tables in use that a build gave, and an input of less than 2^64 bytes. -/
theorem State.Inv.step_tablesBuilt (h : s.Inv) : Yields (fun u => u.TablesBuilt ∧ u.InputOk) (step s) := by
  obtain ⟨hin, hport⟩ := h.input
  cases hp : s.port with
  | none =>
    cases hb : s.busy
    · rw [step_of_idle hp hb]
      exact yields_next.mpr ⟨h.tables, h.input⟩
    · intro u hu
      obtain ⟨htables, hpu⟩ := h.step_running ⟨hb, hp⟩ u hu
      obtain ⟨hinBuf, -⟩ := (step_onward hp u hu).operands
      exact ⟨htables, hinBuf ▸ hin, fun m hm => nomatch hpu.symm.trans hm⟩
  | some m =>
    have hrefused : s.takePort.refuse.TablesBuilt ∧ s.takePort.refuse.InputOk :=
      ⟨⟨h.tables.precode, h.tables.body⟩, hin, nofun⟩
    cases hi : decodeCommand m with
    | error e =>
      rw [step_of_command_error hp hi]
      exact yields_next.mpr hrefused
    | ok i =>
      rw [step_of_command hp hi]
      exact command_yields hi hrefused (fun _ => ⟨State.tablesBuilt_of_idle rfl, hin, nofun⟩)
        fun _ _ _ => ⟨State.tablesBuilt_of_phase (.inl rfl), hport m hp, nofun⟩

/-- Every step keeps the model's invariants. -/
theorem State.Inv.step (h : s.Inv) : Yields State.Inv (step s) := by
  intro u hu
  obtain ⟨hsized, hranged⟩ := step_sizesOk h.sizesOk u hu
  obtain ⟨hcursor, hout⟩ := step_boundsOk ⟨h.cursor, h.out⟩ u hu
  obtain ⟨htables, hinput⟩ := h.step_tablesBuilt u hu
  exact ⟨hsized, hranged, hcursor, hout, hinput, step_flagOk h.flag u hu, htables⟩

end

end Sys2Proof.Machine

/-! PROOFS. No response depends on earlier commands (44 R711). -/

namespace Sys2Proof.Machine
open Sys2Proof

/-! ### Runs -/

theorem State.run_zero (s : State) : s.run 0 = .next s := rfl

theorem State.run_succ_of_next {s u : State} (n : Nat) (h : step s = .next u) : s.run (n + 1) = u.run n := by
  have hcore : core.step s = .next u := h
  simp only [State.run, Host.Core.run, hcore] <;> rfl

theorem State.run_succ_of_fault {s : State} {f : Fault} (n : Nat) (h : step s = .fault f) :
    s.run (n + 1) = .fault f := by
  have hcore : core.step s = .fault f := h
  simp only [State.run, Host.Core.run, hcore] <;> rfl

theorem State.run_of_idle {s : State} (hp : s.port = none) (hb : s.busy = false) (n : Nat) : s.run n = .next s := by
  induction n with
  | zero => rfl
  | succ n ih => rw [State.run_succ_of_next n (step_of_idle hp hb), ih]

/-! ### Two runs of one command -/

section
variable {s t : State}

/-- While a command runs the host sees no response (70 R904). -/
theorem State.Running.response (h : s.Running) : s.response = none := if_pos h.1

/-- After any number of steps the host sees the same of two states that are alike. -/
theorem State.Alike.visible_run (n : Nat) (h : s.Alike t) (hs : s.Inv) (ht : t.Inv) :
    visible (s.run n) = visible (t.run n) := by
  induction n generalizing s t with
  | zero => exact congrArg some (h.together.left.response.trans h.together.right.response.symm)
  | succ n ih =>
    have hstep := h.step hs.sizesOk ht.sizesOk hs.flag ht.flag
    have hinvs := hs.step
    have hinvt := ht.step
    generalize hu : Machine.step s = o at hstep hinvs
    generalize hv : Machine.step t = p at hstep hinvt
    cases hstep with
    | running h =>
      rw [State.run_succ_of_next n hu, State.run_succ_of_next n hv]
      exact ih h (yields_next.mp hinvs) (yields_next.mp hinvt)
    | ended h =>
      rw [State.run_succ_of_next n hu, State.run_succ_of_next n hv, State.run_of_idle h.portLeft h.busyLeft,
        State.run_of_idle h.portRight h.busyRight]
      exact congrArg some h.response
    | stopped f g => rw [State.run_succ_of_fault n hu, State.run_succ_of_fault n hv]; rfl

/-- A submitted DECOMPRESS is accepted by an idle block (44 R703). -/
theorem State.step_submit {m : HostCmd} {wantIn wantOut : Bool} {inBytes : List Byte} {outN : Count}
    (hm : commandOf (.cmdDecompress wantIn wantOut inBytes outN) = some m) (hb : s.busy = false) :
    step (s.submit m) = .next ((s.submit m).takePort.accept wantIn wantOut inBytes outN) :=
  (step_of_command rfl (decodeCommand_commandOf hm)).trans
    (if_neg (ne_true_of_eq_false (show (s.submit m).takePort.busy = false from hb)))

theorem State.Inv.submit (h : s.Inv) {m : HostCmd} (hm : m.inBytes.length < 2 ^ 64) : (s.submit m).Inv where
  sized := h.sized.congr
  ranged := ⟨h.ranged.nlit, h.ranged.noff, h.ranged.ncl, h.ranged.tablebits, h.ranged.precodeLen, h.ranged.codeLen,
    h.ranged.matchLen⟩
  cursor := h.cursor
  out := h.out.congr rfl rfl rfl h.out.defined
  input := ⟨h.input.1, fun m' hm' => Option.some.inj hm' ▸ hm⟩
  flag := ⟨h.flag.loaded, h.flag.cleared⟩
  tables := ⟨h.tables.precode, h.tables.body⟩

/-- Two accepted commands with the same operands are alike, whatever the blocks have done before. -/
theorem State.accept_alike (s t : State) (wantIn wantOut : Bool) (inBytes : List Byte) (outN : Count) :
    (s.takePort.accept wantIn wantOut inBytes outN).Alike (t.takePort.accept wantIn wantOut inBytes outN) :=
  .blockHeader ⟨rfl, ⟨rfl, rfl⟩, ⟨rfl, rfl⟩⟩ rfl rfl

end

/-- Settles O60: an accepted command is alike to the same command on a fresh block, and a step takes states that are
alike to outcomes that are alike (`State.Alike.step`). -/
theorem noResultDependsOnEarlierCommands : Obligations.NoResultDependsOnEarlierCommands := by
  intro s wantIn wantOut inBytes outN m n hs hb hport hlen hm
  obtain ⟨hreset, -⟩ := resetKeepsEveryInvariant
  have hbytes : m.inBytes.length < 2 ^ 64 := by
    cases hm
    exact hlen
  have hstep := State.step_submit hm hb
  have hstep' := State.step_submit (s := State.reset) hm rfl
  rw [State.run_succ_of_next n hstep, State.run_succ_of_next n hstep']
  exact (State.accept_alike _ _ _ _ _ _).visible_run n ((hs.submit hbytes).step _ hstep)
    ((hreset.submit hbytes).step _ hstep')

end Sys2Proof.Machine

/-! PROOFS. Every element takes at least one bit, so a command ends (43 R617, 44 R716). -/

namespace Sys2Proof.Machine
open Sys2Proof

/-! ### The entries of a root table take bits (30 R303, 41 R456, R466) -/

/-- A slot of a root table: an entry of a symbol with at least one bit of codeword, or a pointer, where codewords may be
longer than the root is wide. -/
def RootEntry (mk : Nat → Nat → Entry) (N T L : Nat) (e : Entry) : Prop :=
  (∃ sym n, sym < N ∧ 1 ≤ n ∧ n ≤ 15 ∧ e = mk sym n) ∨ T < L ∧ ∃ start bits, bits ≤ 15 ∧ e = pointerEntry start bits T

theorem buildTable_rootEntry {lens : List Nat} {mk : Nat → Nat → Entry} {N T L enough : Nat} {t table : List Entry}
    (h : buildTable lens mk T L enough = .ok t) (htake : table.take t.length = t) (hN : lens.length ≤ N) (hpos : 0 < N)
    (hlens : ∀ l ∈ lens, l ≤ L) (hL1 : 1 ≤ L) (hL : L ≤ 15) (hT : T ≤ 15) {j : Nat} (hj : j < 2 ^ T) :
    RootEntry mk N T L (table.getD j default) := by
  rcases Nat.lt_trichotomy (usedSpace lens (maxLen lens L)) (2 ^ maxLen lens L) with hlt | heq | hgt
  · rw [buildTable_of_incomplete hlt] at h
    split_ifs at h with h0 h1
    · cases h
      exact .inl ⟨0, 1, hpos, Nat.le_refl 1, by decide, getD_of_take_eq htake (List.getElem?_replicate_of_lt hj)⟩
    · cases h
      obtain ⟨sym, hsym⟩ := (single_iff hL1).mp h1
      rw [hsym] at htake
      obtain ⟨hget, -, -⟩ := mem_sortSyms_iff.mp (hsym ▸ List.mem_singleton_self (sym, 1))
      obtain ⟨hlt, -⟩ := List.getElem?_eq_some_iff.mp hget
      exact .inl ⟨sym, 1, Nat.lt_of_lt_of_le hlt hN, Nat.le_refl 1, by decide,
        getD_of_take_eq htake (List.getElem?_replicate_of_lt hj)⟩
  · obtain ⟨sym, l, hbegins, hfinds⟩ := buildTable_finds h heq hlens hL1 hL hT j
    obtain ⟨hget, h1, hl⟩ := mem_sortSyms_iff.mp hbegins.mem
    rw [Finds, Nat.mod_eq_of_lt hj] at hfinds
    obtain ⟨-, he⟩ | ⟨hTl, start, bits, he, hbits, -⟩ := hfinds
    · obtain ⟨hlt, -⟩ := List.getElem?_eq_some_iff.mp hget
      exact .inl ⟨sym, l, Nat.lt_of_lt_of_le hlt hN, h1, hl.trans hL, getD_of_take_eq htake he⟩
    · exact .inr ⟨Nat.lt_of_lt_of_le hTl hl, start, bits, hbits, getD_of_take_eq htake he⟩
  · rw [buildTable_overfull_iff.mpr hgt] at h
    cases h

theorem one_le_litlenRootBits (lens : List Nat) : 1 ≤ litlenRootBits lens :=
  Nat.le_min.mpr ⟨by decide, one_le_maxLen lens 15⟩

/-! ### A decoded element takes its codeword at least -/

theorem decodePresym_streamBits_ge {e : Entry} {inb : List Byte} {c : Nat} {i : Instr}
    (h : decodePresym e inb c = .ok i) : e.cwbits.toNat ≤ i.streamBits := by
  simp only [decodePresym] at h
  split at h
  · cases h
    exact Nat.le_add_right _ _
  · split at h <;> cases h
    all_goals exact Nat.le_add_right _ _

theorem decodeLitlen_streamBits_ge {e : Entry} {inb : List Byte} {c : Nat} {i : Instr}
    (h : decodeLitlen e inb c = .ok i) : e.cwbits.toNat ≤ i.streamBits := by
  unfold decodeLitlen at h
  split at h
  · cases h; exact Nat.le_add_right _ _
  split at h
  · cases h; exact Nat.le_add_right _ _
  split at h
  · split at h
    · cases h; exact Nat.le_add_right _ _
    · split at h <;> cases h
      exact Nat.le_add_right _ _
  · split at h <;> cases h
    next hi => exact (streamBits_of_layout (layout_of_lenInstr hi)).ge.trans' (Nat.le_add_right _ _)

theorem decodeOffset_streamBits_ge {e : Entry} {inb : List Byte} {c : Nat} {i : Instr}
    (h : decodeOffset e inb c = .ok i) : e.cwbits.toNat ≤ i.streamBits := by
  unfold decodeOffset at h
  split at h
  · split at h
    · cases h; exact Nat.le_add_right _ _
    · split at h <;> cases h
      exact Nat.le_add_right _ _
  · split at h <;> cases h
    next hi => exact (streamBits_of_layout (layout_of_distInstr hi)).ge.trans' (Nat.le_add_right _ _)

theorem one_le_toNat_ofNat {n : Nat} (h1 : 1 ≤ n) (hn : n ≤ 15) : 1 ≤ (BitVec.ofNat 4 n).toNat := by
  rw [BitVec.toNat_ofNat]
  omega

/-! ### Fetching -/

section
variable {s u : State} {i : Instr}

/-- A lookup takes the root bits of a pointer, or leaves an element that takes its codeword. -/
theorem State.lookup_takes {mk : Nat → Nat → Entry} {N T L : Nat} {table : List Entry}
    {decode : Entry → List Byte → Nat → Except DecodeError Instr} (hT1 : 1 ≤ T) (hT : T ≤ 15)
    (hroot : ∀ j, j < 2 ^ T → RootEntry mk N T L (table.getD j default))
    (hcw : ∀ sym n, sym < N → n ≤ 15 → (mk sym n).isPointer = false ∧ (mk sym n).cwbits = BitVec.ofNat 4 n)
    (hge : ∀ {e inb c i}, decode e inb c = .ok i → e.cwbits.toNat ≤ i.streamBits)
    (h : (s.lookup table T fun e u => .ofDecoded (decode e u.inBuf u.c) u) = .instr i u) :
    s.c < u.c ∨ 1 ≤ i.streamBits := by
  obtain ⟨sym, n, hsym, h1, hn, he⟩ | ⟨-, start, bits, hbits, he⟩ := hroot (s.peek T) (peekBits_lt _ _ _)
  · obtain ⟨hdirect, hcwbits⟩ := hcw sym n hsym hn
    rw [State.lookup_of_direct he hdirect] at h
    obtain ⟨hd, -⟩ := Fetched.ofDecoded_instr h
    have hbits := hge hd
    rw [hcwbits] at hbits
    exact .inr ((one_le_toNat_ofNat h1 hn).trans hbits)
  · obtain ⟨hp, -⟩ | ⟨-, -, hraised⟩ | ⟨-, -, hpointer⟩ :=
      s.lookup_cases table T fun e u => .ofDecoded (decode e u.inBuf u.c) u
    · rw [he, pointerEntry_isPointer hbits hT] at hp
      cases hp
    · rw [hraised] at h
      cases h
    · rw [hpointer, he, pointerEntry_nbits hT] at h
      obtain ⟨-, rfl⟩ := Fetched.ofDecoded_instr h
      exact .inl (Nat.lt_add_of_pos_right hT1)

/-- A fetch moves the cursor, or finds an element that will. -/
theorem State.Inv.fetch_takes (h : s.Inv) (hb : s.busy = true) (hf : fetch s = .instr i u) :
    s.c < u.c ∨ 1 ≤ i.streamBits := by
  cases hp : s.phase with
  | blockHeader =>
    rw [fetch_of_blockHeader hp] at hf
    cases hf
    refine .inr ?_
    unfold decodeBlockHeader
    split <;> exact Nat.le_of_ble_eq_true rfl
  | precodeLen =>
    rw [fetch_of_precodeLen hp] at hf
    cases hf
    exact .inr (by decide : 1 ≤ 3)
  | codeLen =>
    have hlen : s.precodeLengths.length ≤ 19 := by
      rw [State.precodeLengths, List.length_map, h.sized.precodeLens]
    have hlens : ∀ l ∈ s.precodeLengths, l ≤ 7 := fun l hl => by
      obtain ⟨b, -, rfl⟩ := List.mem_map.mp hl
      exact Nat.le_of_lt_succ b.isLt
    rw [fetch_of_codeLen hp] at hf
    obtain ⟨hd, -⟩ := Fetched.ofDecoded_instr hf
    have hroot : RootEntry (makeEntry tmplPrecode) 19 7 7 (s.precodeTable.getD (peekBits s.inBuf s.c 7) default) :=
      buildTable_rootEntry (h.tables.precode hb hp) List.take_length hlen (by decide) hlens (by decide) (by decide)
        (by decide) (peekBits_lt s.inBuf s.c 7)
    obtain ⟨sym, n, -, h1, hn, he⟩ | ⟨hlt, -⟩ := hroot
    · have hbits := decodePresym_streamBits_ge hd
      rw [State.peek, he, precodeEntry_cwbits sym hn] at hbits
      exact .inr ((one_le_toNat_ofNat h1 hn).trans hbits)
    · exact absurd hlt (by decide)
  | body =>
    obtain ⟨-, lens, t, hlen, hlens, ht, htake, hbits⟩ := h.tables.body hb (.inl hp)
    rw [fetch_of_body hp, hbits] at hf
    have hT : litlenRootBits lens ≤ 15 := (litlenRootBits_le lens).trans (by decide)
    have hroot j (hj : j < 2 ^ litlenRootBits lens) :
        RootEntry litlenEntry 288 (litlenRootBits lens) 15 (s.litlenTable.getD j default) :=
      buildTable_rootEntry ht htake hlen (by decide) hlens (by decide) (by decide) hT hj
    exact State.lookup_takes (s := s.refill) (decode := decodeLitlen) (one_le_litlenRootBits lens) hT hroot
      (fun _ _ hsym hn => ⟨litlenEntry_not_isPointer hsym hn, litlenEntry_cwbits hsym hn⟩)
      decodeLitlen_streamBits_ge hf
  | offset =>
    obtain ⟨⟨lens, t, hlen, hlens, ht, htake⟩, -⟩ := h.tables.body hb (.inr hp)
    rw [fetch_of_offset hp] at hf
    rw [← s.refillForOffset_c]
    have hroot j (hj : j < 2 ^ 8) : RootEntry offsetEntry 32 8 15 (s.offsetTable.getD j default) :=
      buildTable_rootEntry ht htake hlen (by decide) hlens (by decide) (by decide) (by decide) hj
    exact State.lookup_takes (decode := decodeOffset) (by decide) (by decide) hroot
      (fun _ _ hsym hn => ⟨offsetEntry_not_isPointer hn, offsetEntry_cwbits hsym hn⟩)
      decodeOffset_streamBits_ge hf

/-! ### Elements -/

/-- The command has ended, or its cursor has passed `c`. -/
def State.Past (c : Nat) (t : State) : Prop := t.busy = false ∨ c < t.c

theorem Yields.past_of_onward {c : Nat} {o : Out} (h : Yields s.Onward o) (hc : c < s.c) : Yields (State.Past c) o :=
  fun t ht => .inr (Nat.lt_of_lt_of_le hc (h t ht).cursor)

theorem State.consume_past {c n : Nat} {k : State → Out} (hk : Yields (State.Past c) (k (s.advance n))) :
    Yields (State.Past c) (s.consume n k) :=
  State.consume_yields (.inl rfl) fun _ => hk

theorem State.lengthElement_past {bits : Nat} (h : 1 ≤ bits) (length : Nat) :
    Yields (State.Past s.c) (s.lengthElement bits length) :=
  State.consume_past (yields_next.mpr (.inr (Nat.lt_add_of_pos_right h)))

theorem State.offsetElement_past {bits : Nat} (h : 1 ≤ bits) (offset : Nat) :
    Yields (State.Past s.c) (s.offsetElement bits offset) :=
  State.consume_past ((State.doMatch_onward _ _).past_of_onward (Nat.lt_add_of_pos_right h))

/-- A block header takes 3 bits, whatever follows them. -/
theorem State.blockHeader_past {final : Bool} {k : State → Out} (hk : ∀ u, Yields u.Onward (k u)) :
    Yields (State.Past s.c) (s.blockHeader final k) :=
  State.consume_past (State.consume_past ((hk _).past_of_onward (by simp only [State.advance_c]; omega)))

/-- What a phase decodes ends the command or moves its cursor, if it takes bits. -/
theorem Phase.Decodes.exec_past {p : Phase} (hi : p.Decodes i) (hbits : 1 ≤ i.streamBits) :
    Yields (State.Past s.c) (exec i s) := by
  cases hi with
  | blockStored final => exact State.blockHeader_past State.storedBlock_onward
  | blockFixed final => exact State.blockHeader_past State.fixedBlock_onward
  | blockDynamic final hlit hdist hclen => exact State.blockHeader_past fun u => u.dynamicBlock_onward hlit hdist hclen
  | blockReserved final => exact State.blockHeader_past fun u => yields_next.mpr (u.onward_raise _)
  | pcl l =>
    exact State.consume_past
      (k := fun u => State.afterPrecodeLen { u.setPrecodeLen u.index l with index := u.index + 1 })
      ((State.afterPrecodeLen_onward _).past_of_onward (Nat.lt_add_of_pos_right (k := 3) (by decide)))
  | cl cw n =>
    rw [exec_cl]
    exact State.consume_past ((State.writeRun_onward _ _ _).past_of_onward (Nat.lt_add_of_pos_right hbits))
  | clRepPrev cw x =>
    rw [exec_clRepPrev]
    refine State.consume_past ?_
    split
    · exact yields_next.mpr (.inl rfl)
    · refine State.consume_past ((State.writeRun_onward _ _ _).past_of_onward ?_)
      simp only [State.advance_c]
      omega
  | clZero cw x =>
    rw [exec_clZero]
    refine State.consume_past (State.consume_past ((State.writeRun_onward _ _ _).past_of_onward ?_))
    simp only [State.advance_c]
    omega
  | clZeroLong cw x =>
    rw [exec_clZeroLong]
    refine State.consume_past (State.consume_past ((State.writeRun_onward _ _ _).past_of_onward ?_))
    simp only [State.advance_c]
    omega
  | lit cw b =>
    rw [exec_lit]
    refine State.consume_past ?_
    split
    · exact yields_next.mpr (.inl rfl)
    · exact yields_next.mpr (.inr (Nat.lt_add_of_pos_right hbits))
  | eob cw =>
    rw [exec_eob]
    exact State.consume_past ((yields_next.mpr (State.onward_endBlock _)).past_of_onward
      (Nat.lt_add_of_pos_right hbits))
  | length hi =>
    unfold lenInstr at hi
    split at hi <;> cases hi
    case h_30 | h_31 => exact yields_next.mpr (.inl rfl)
    all_goals exact State.lengthElement_past hbits _
  | offset hi =>
    unfold distInstr at hi
    split at hi <;> cases hi
    case h_31 | h_32 => exact yields_next.mpr (.inl rfl)
    all_goals exact State.offsetElement_past hbits _

/-! ### Steps and runs -/

theorem State.Inv.fetched_decodes (h : s.Inv) (hs : s.Running) (hf : fetch s = .instr i u) : s.phase.Decodes i := by
  have hfetch := (h.alike hs).fetch
  rw [hf] at hfetch
  cases hfetch with
  | instr _ _ _ hi => exact hi

/-- A step of a running command ends it or moves its cursor. -/
theorem State.Inv.step_past (h : s.Inv) (hs : s.Running) : Yields (State.Past s.c) (Machine.step s) := by
  have hform := fetch_form s
  generalize hf : fetch s = f at hform
  cases hform with
  | instr u i hu element =>
    rw [step_of_fetch hs.2 hs.1 hf]
    obtain hc | hbits := h.fetch_takes hs.1 hf
    · exact element.onward.past_of_onward hc
    · exact fun t ht => ((h.fetched_decodes hs hf).exec_past hbits t ht).imp_right
        (Nat.lt_of_le_of_lt hu.onward.cursor)
  | raised u _ =>
    rw [step_of_fetch_raised hs.2 hs.1 hf]
    exact yields_next.mpr (.inl rfl)
  | stuck f =>
    rw [step_of_fetch_stuck hs.2 hs.1 hf]
    exact yields_fault

/-- A command with fewer than `d` bits of IN past its cursor ends within `d` steps, or stops at a build: each step but
the last takes a bit. -/
theorem State.Inv.ends {d : Nat} (h : s.Inv) (hs : s.Running) (hd : 8 * s.inN < s.c + d) :
    ∃ n, n ≤ d ∧ ((∃ t, s.run n = .next t ∧ t.busy = false) ∨ s.run n = .fault .tableOverflow) := by
  induction d generalizing s with
  | zero => exact absurd h.cursor (Nat.not_le_of_lt hd)
  | succ d ih =>
    obtain ⟨t, ht⟩ | hfault := onlyABuildCanStop s h
    · cases hb : t.busy with
      | false => exact ⟨1, Nat.le_add_left 1 d, .inl ⟨t, by rw [State.run_succ_of_next 0 ht, State.run_zero], hb⟩⟩
      | true =>
        have hc : s.c < t.c := (h.step_past hs t ht).resolve_left (ne_false_of_eq_true hb)
        obtain ⟨-, hport⟩ := h.step_running hs t ht
        obtain ⟨hin, -⟩ := (step_onward hs.2 t ht).operands
        have hlen : t.inN = s.inN := congrArg List.length hin
        have hleft : 8 * t.inN < t.c + d := by omega
        obtain ⟨n, hn, hend⟩ := ih (h.step t ht) ⟨hb, hport⟩ hleft
        exact ⟨n + 1, Nat.succ_le_succ hn, by rwa [State.run_succ_of_next n ht]⟩
    · exact ⟨1, Nat.le_add_left 1 d, .inr (State.run_succ_of_fault 0 hfault)⟩

end

/-- Settles O59, by induction on the bits of IN past the cursor. -/
theorem commandEnds : Obligations.CommandEnds := by
  intro s h hb hp
  exact h.ends ⟨hb, hp⟩ (Nat.lt_add_left s.c (Nat.lt_succ_self _))

end Sys2Proof.Machine

/-! PROOFS. What ends a command with an error: a raise, and an element whose bits cross the end of IN (60 R800 to R802,
40 R403). -/

namespace Sys2Proof.Machine
open Sys2Proof

/-! ### A raise (60 R800, 44 R710) -/

/-- 60 R801, R802: the three space causes are those of INSUFFICIENT_SPACE. -/
theorem Cause.result_eq_insufficientSpace_iff (e : Cause) :
    e.result = .insufficientSpace ↔ e = .literalSpace ∨ e = .storedSpace ∨ e = .matchSpace := by
  cases e <;> decide

/-- 60 R801: the other twelve causes are those of BAD_DATA. -/
theorem Cause.result_eq_badData_iff (e : Cause) :
    e.result = .badData ↔ e ∈ [Cause.overread, .storedHeaderTruncated, .storedDataTruncated, .badBlockType, .lenNlen,
      .overfullCode, .incompleteCode, .repeatNoPrevious, .lensCountMismatch, .offsetTooFar, .reservedLitlen,
      .reservedOffset] := by
  cases e <;> decide

/-- Settles O45: the causes are split by `Cause.result`, a raise writes the response only, and `busy` having fallen, the
step after it is idle (`step_of_idle`). -/
theorem raiseEndsTheCommand : Obligations.RaiseEndsTheCommand := fun s e =>
  ⟨e.result_cases, e.result_eq_insufficientSpace_iff, e.result_eq_badData_iff, ⟨rfl, rfl, rfl, rfl⟩,
    s.raise_ended e, s.raise_sameObject e, ⟨rfl, rfl, rfl, rfl⟩, rfl, rfl, rfl, rfl, fun hp => step_of_idle hp rfl⟩

/-! ### Operations cut short (40 R403) -/

/-- The command ends with BAD_DATA, and OUT and `out_next` are those of `s`. -/
def State.CutShort (s : State) (o : Out) : Prop :=
  ∃ t, o = .next t ∧ State.EndedWith .badData t ∧ t.out = s.out ∧ t.outNext = s.outNext

section
variable {s u : State} {n : Nat} {k : State → Out}

theorem State.raise_cutShort {e : Cause} (he : e.result = .badData) (out : u.out = s.out := by rfl)
    (outNext : u.outNext = s.outNext := by rfl) : s.CutShort (.next (u.raise e)) :=
  ⟨_, rfl, he ▸ u.raise_ended e, out, outNext⟩

/-- A consume is cut short, or what follows it is: it writes no byte of OUT itself. -/
theorem State.consume_cutShort (hk : u.c + n ≤ 8 * u.inN → s.CutShort (k (u.advance n)))
    (out : u.out = s.out := by rfl) (outNext : u.outNext = s.outNext := by rfl) : s.CutShort (u.consume n k) := by
  obtain ⟨-, h⟩ | ⟨hle, h⟩ := u.consume_cases n k <;> rw [h]
  · exact State.raise_cutShort rfl out outNext
  · exact hk hle

theorem State.consume_cutShort_of_lt (h : 8 * u.inN < u.c + n) (out : u.out = s.out := by rfl)
    (outNext : u.outNext = s.outNext := by rfl) : s.CutShort (u.consume n k) :=
  State.consume_cutShort (fun hle => absurd hle (Nat.not_le_of_lt h)) out outNext

/-- A codeword and its extra bits. -/
theorem State.consume_consume_cutShort {m : Nat} (h : 8 * s.inN < s.c + (m + n)) :
    s.CutShort (s.consume m fun u => u.consume n k) :=
  State.consume_cutShort fun _ => State.consume_cutShort_of_lt (h.trans_eq (Nat.add_assoc ..).symm)

theorem State.blockHeader_cutShort {final : Bool} (hk : s.c + 3 ≤ 8 * s.inN → s.CutShort (k (s.withHeader final))) :
    s.CutShort (s.blockHeader final k) := by
  by_cases h : s.c + 3 ≤ 8 * s.inN
  · rw [State.blockHeader_of_le h]
    exact hk h
  · exact State.consume_cutShort fun _ => State.consume_cutShort_of_lt (Nat.lt_of_not_le h)

theorem State.dynamicBlock_cutShort (h : 8 * u.inN < u.c + 14) (hlit hdist : BitVec 5) (hclen : BitVec 4)
    (out : u.out = s.out := by rfl) (outNext : u.outNext = s.outNext := by rfl) :
    s.CutShort (u.dynamicBlock hlit hdist hclen) :=
  State.consume_cutShort (fun _ => State.consume_cutShort (fun _ => State.consume_cutShort_of_lt h out outNext)
    out outNext) out outNext

theorem State.lengthElement_cutShort (h : 8 * s.inN < s.c + n) (length : Nat) : s.CutShort (s.lengthElement n length) :=
  State.consume_cutShort_of_lt h

theorem State.offsetElement_cutShort (h : 8 * s.inN < s.c + n) (offset : Nat) : s.CutShort (s.offsetElement n offset) :=
  State.consume_cutShort_of_lt h

theorem exec_pcl (s : State) (l : BitVec 3) : exec (.pcl l) s =
    s.consume 3 fun u => State.afterPrecodeLen { u.setPrecodeLen u.index l with index := u.index + 1 } := rfl

/-- 42 R524: where the codeword of a repeat is there, either check behind it raises BAD_DATA. -/
theorem exec_clRepPrev_cutShort {cw : BitVec 4} (h : 8 * s.inN < s.c + (cw.toNat + 2)) (x : BitVec 2) :
    s.CutShort (exec (.clRepPrev cw x) s) := by
  rw [exec_clRepPrev]
  refine State.consume_cutShort fun _ => ?_
  split
  · exact State.raise_cutShort rfl
  · exact State.consume_cutShort_of_lt (h.trans_eq (Nat.add_assoc ..).symm)

/-! ### Elements cut short -/

variable {i : Instr}

/-- A block header or a precode length; a command takes no bit of the stream. -/
theorem exec_cutShort_of_fixed {bits : List Bool} (hi : i.layout = .fixed bits) (hbits : 0 < i.streamBits)
    (h : 8 * s.inN < s.c + i.streamBits) : s.CutShort (exec i s) := by
  cases i <;> cases hi
  case blockStored | blockFixed | blockReserved =>
    exact State.blockHeader_cutShort fun hle => absurd hle (Nat.not_le_of_lt h)
  case blockDynamic final hlit hdist hclen =>
    have h17 : 8 * s.inN < s.c + 3 + 14 := h
    exact State.blockHeader_cutShort fun _ => State.dynamicBlock_cutShort h17 hlit hdist hclen
  case pcl l => exact exec_pcl s l ▸ State.consume_cutShort_of_lt h
  case cmdReset | cmdDecompress | cmdReserved2 | cmdReserved3 => exact absurd hbits (Nat.lt_irrefl 0)

/-- A precode symbol. -/
theorem exec_cutShort_of_presym {sym cw xw x : Nat} (hi : i.layout = .coded .presym sym cw xw x)
    (h : 8 * s.inN < s.c + i.streamBits) : s.CutShort (exec i s) := by
  cases i <;> cases hi
  case cl cw n => exact exec_cl s cw n ▸ State.consume_cutShort_of_lt h
  case clRepPrev cw x => exact exec_clRepPrev_cutShort h x
  case clZero cw x => exact State.consume_consume_cutShort h
  case clZeroLong cw x => exact State.consume_consume_cutShort h

/-- A length symbol. A reserved one raises before its codeword is consumed (43 R649, R650). -/
theorem exec_cutShort_of_lenInstr {sym v : Nat} {cw : BitVec 4} (hi : lenInstr sym cw v = some i)
    (h : 8 * s.inN < s.c + i.streamBits) : s.CutShort (exec i s) := by
  unfold lenInstr at hi
  split at hi <;> cases hi
  case h_30 | h_31 => exact State.raise_cutShort (e := .reservedLitlen) rfl
  all_goals exact State.lengthElement_cutShort h _

/-- An offset symbol. A reserved one raises before its codeword is consumed (43 R690, R691). -/
theorem exec_cutShort_of_distInstr {sym v : Nat} {cw : BitVec 4} (hi : distInstr sym cw v = some i)
    (h : 8 * s.inN < s.c + i.streamBits) : s.CutShort (exec i s) := by
  unfold distInstr at hi
  split at hi <;> cases hi
  case h_31 | h_32 => exact State.raise_cutShort (e := .reservedOffset) rfl
  all_goals exact State.offsetElement_cutShort h _

/-- An element whose bits cross the end of IN is cut short before it writes a byte. -/
theorem exec_cutShort (hbits : 0 < i.streamBits) (h : 8 * s.inN < s.c + i.streamBits) : s.CutShort (exec i s) := by
  cases hi : i.layout with
  | fixed bits => exact exec_cutShort_of_fixed hi hbits h
  | coded f sym cw xw x =>
    obtain rfl | rfl | rfl := layout_format hi
    · exact exec_cutShort_of_presym hi h
    · obtain ⟨b, rfl, -⟩ | ⟨rfl, -⟩ | ⟨-, -, hlen, -⟩ := litlen_layout_cases hi
      · exact exec_lit s _ b ▸ State.consume_cutShort_of_lt h
      · exact exec_eob s _ ▸ State.consume_cutShort_of_lt h
      · exact exec_cutShort_of_lenInstr hlen h
    · obtain ⟨-, hdist, -⟩ := offset_layout_cases hi
      exact exec_cutShort_of_distInstr hdist h

end

/-- Settles O8, by the kinds of element (`exec_cutShort`): the premise on the cursor is not needed. -/
theorem truncatedElementIsBadData : Obligations.TruncatedElementIsBadData :=
  fun _ _ _ hbits h => exec_cutShort hbits h

end Sys2Proof.Machine

/-! PROOFS. Power-on, and what the state keeps between steps: built tables (70 R909), the object while a body is decoded
(70 R909), and the response registers while a command runs (70 R904). -/

namespace Sys2Proof.Machine
open Sys2Proof

/-- Settles O56: states that are alike have tables that a build gave, a state of the invariants is alike to itself, and a
step keeps that (`State.Inv.step_tablesBuilt`). -/
theorem tablesInUseAreBuilt : Obligations.TablesInUseAreBuilt := fun _ t h ht => h.step_tablesBuilt t ht

/-- Settles O41: State.reset writes each value out; a table's words are those of its cells. -/
theorem powerOnState : Obligations.PowerOnState :=
  ⟨rfl, rfl, List.map_replicate, List.map_replicate, List.map_replicate, rfl, rfl, rfl, rfl, rfl, rfl, rfl, rfl, rfl, rfl⟩

/-! ### The body writes no table, length or flag (43 R600, R611) -/

section
variable {s t u : State} {o : Out}

theorem State.FetchedFrom.sameObject (h : s.FetchedFrom u) : s.SameObject u := by
  obtain ⟨c, dp, -, -⟩ := h
  exact .refl s

theorem State.SameObject.trans (h : s.SameObject t) (h' : t.SameObject u) : s.SameObject u := by
  obtain ⟨hpl, hl, hpt, hlt, hot, hss, hf, hb⟩ := h
  obtain ⟨hpl', hl', hpt', hlt', hot', hss', hf', hb'⟩ := h'
  exact ⟨hpl'.trans hpl, hl'.trans hl, hpt'.trans hpt, hlt'.trans hlt, hot'.trans hot, hss'.trans hss, hf'.trans hf,
    hb'.trans hb⟩

theorem State.consume_sameObject {n : Nat} {k : State → Out} (hk : Yields s.SameObject (k (s.advance n))) :
    Yields s.SameObject (s.consume n k) :=
  State.consume_yields (s.raise_sameObject _) fun _ => hk

theorem State.endBlock_sameObject (s : State) : s.SameObject s.endBlock := by
  cases hf : s.final
  · rw [State.endBlock_of_not_final hf]
    exact .refl s
  · rw [State.endBlock_of_final hf]
    exact .refl s

theorem State.doMatch_sameObject (s : State) (offset : Nat) : Yields s.SameObject (s.doMatch offset) := by
  obtain ⟨-, he⟩ | ⟨-, -, he⟩ | ⟨-, -, ⟨-, he⟩ | ⟨t, ht, he⟩⟩ := s.doMatch_cases offset <;> rw [he]
  · exact yields_next.mpr (s.raise_sameObject _)
  · exact yields_next.mpr (s.raise_sameObject _)
  · exact yields_fault
  · rw [State.copyMatch_frame ht]
    exact yields_next.mpr (.refl s)

/-- Every element of a body keeps the object, whether it raises or not. -/
theorem Element.sameObject (he : Element s o) (hp : s.phase = .body ∨ s.phase = .offset) : Yields s.SameObject o := by
  cases he with
  | lit _ cw b =>
    refine State.consume_sameObject ?_
    split
    · exact yields_next.mpr (State.raise_sameObject _ _)
    · exact yields_next.mpr (.refl s)
  | eob _ cw => exact State.consume_sameObject (yields_next.mpr (s.advance _).endBlock_sameObject)
  | length _ bits length => exact State.consume_sameObject (yields_next.mpr (.refl s))
  | reservedLength _ => exact yields_next.mpr (s.raise_sameObject _)
  | offset _ bits offset => exact State.consume_sameObject ((s.advance bits).doMatch_sameObject offset)
  | reservedOffset _ => exact yields_next.mpr (s.raise_sameObject _)
  | blockStored h | blockFixed h | blockDynamic h | blockReserved h | pcl h | cl h | clRepPrev h | clZero h
  | clZeroLong h => simp [h] at hp

end

/-- Settles O49, by the elements of a body (`Element.sameObject`); the fetch before one moves the cursor only. -/
theorem bodyKeepsTheObject : Obligations.BodyKeepsTheObject := fun s t _ hb hp ht =>
  step_yields (P := s.SameObject) (idle := fun _ _ => .refl s) (refused := .refl s)
    (reset := fun hidle => absurd (hb.symm.trans hidle) (by decide))
    (accepted := fun _ _ _ _ _ => .refl s)
    (overread := fun u _ _ hu => hu.sameObject.trans (u.raise_sameObject _))
    (element := fun u o _ _ hu he v hv => hu.sameObject.trans (he.sameObject (hu.phase.symm ▸ hp) v hv))
    t ht

/-! ### The response registers wait for the end of the command (70 R904) -/

/-- 70 R904: while `t` runs it shows the response of `s`, but that a command may have been refused. -/
def State.HoldsResponse (s t : State) : Prop :=
  t.busy = true →
    t.result = s.result ∧ t.actualIn = s.actualIn ∧ t.actualOut = s.actualOut ∧ t.actualInValid = s.actualInValid ∧
    t.actualOutValid = s.actualOutValid ∧ (t.refused = s.refused ∨ t.refused = true)

section
variable {s u : State} {k : State → Out} {o : Out}

theorem State.SameResponse.refl (s : State) : s.SameResponse s := ⟨rfl, rfl, rfl, rfl, rfl, rfl⟩

theorem State.SameResponse.holds (h : s.SameResponse u) : s.HoldsResponse u := by
  obtain ⟨hresult, hin, hout, hinValid, houtValid, hrefused⟩ := h
  exact fun _ => ⟨hresult, hin, hout, hinValid, houtValid, .inl hrefused⟩

theorem State.holdsResponse_of_idle (hb : u.busy = false) : s.HoldsResponse u :=
  fun hb' => absurd (hb.symm.trans hb') (by decide)

theorem State.FetchedFrom.sameResponse (h : s.FetchedFrom u) : s.SameResponse u := by
  obtain ⟨c, dp, -, -⟩ := h
  exact .refl s

theorem State.SameResponse.consume {n : Nat} (h : s.SameResponse u)
    (hk : s.SameResponse (u.advance n) → Yields s.HoldsResponse (k (u.advance n))) :
    Yields s.HoldsResponse (u.consume n k) :=
  State.consume_yields (State.holdsResponse_of_idle rfl) fun _ => hk h

theorem State.SameResponse.buildPrecode (h : s.SameResponse u)
    (hk : ∀ v, s.SameResponse v → Yields s.HoldsResponse (k v)) : Yields s.HoldsResponse (u.buildPrecode k) :=
  State.buildPrecode_yields (fun _ _ => hk _ h)
    fun _ => State.failPrecode_yields fun _ _ _ _ => State.holdsResponse_of_idle rfl

theorem State.SameResponse.buildCodes (h : s.SameResponse u)
    (hk : ∀ v, s.SameResponse v → Yields s.HoldsResponse (k v)) : Yields s.HoldsResponse (u.buildCodes k) :=
  State.buildOffset_yields
    (fun _ _ => State.buildLitlen_yields (fun _ _ => hk _ h)
      fun _ => State.failLitlen_yields fun _ _ _ _ _ _ => State.holdsResponse_of_idle rfl)
    fun _ => State.failOffset_yields fun _ _ _ _ => State.holdsResponse_of_idle rfl

/-- Between two blocks the registers stay; the end of the stream writes them and `busy` falls (44 R704, R705). -/
theorem State.SameResponse.endBlock (h : s.SameResponse u) : s.HoldsResponse u.endBlock := by
  cases hf : u.final
  · rw [State.endBlock_of_not_final hf]
    exact State.SameResponse.holds h
  · rw [State.endBlock_of_final hf]
    exact State.holdsResponse_of_idle rfl

/-! Block headers -/

theorem State.SameResponse.blockHeader {final : Bool} (h : s.SameResponse u)
    (hk : ∀ v, s.SameResponse v → Yields s.HoldsResponse (k v)) : Yields s.HoldsResponse (u.blockHeader final k) :=
  h.consume fun h1 => State.SameResponse.consume h1 (hk _)

theorem State.SameResponse.storedData (h : s.SameResponse u) (len nlen : BitVec 16) :
    Yields s.HoldsResponse (u.storedData len nlen) := by
  obtain ⟨-, he⟩ | ⟨-, -, he⟩ | ⟨-, -, -, he⟩ | ⟨-, -, -, he⟩ := u.storedData_cases len nlen <;> rw [he, yields_next]
  · exact State.holdsResponse_of_idle rfl
  · exact State.holdsResponse_of_idle rfl
  · exact State.holdsResponse_of_idle rfl
  · rw [State.copyStored_frame]
    exact State.SameResponse.endBlock h

theorem State.SameResponse.readHalf {k : BitVec 16 → State → Out} (h : s.SameResponse u)
    (hk : ∀ v w, s.SameResponse w → Yields s.HoldsResponse (k v w)) : Yields s.HoldsResponse (u.readHalf k) :=
  hk _ _ h

theorem State.SameResponse.storedBlock (h : s.SameResponse u) : Yields s.HoldsResponse u.storedBlock := by
  unfold State.storedBlock
  dsimp only
  split
  · exact yields_next.mpr (State.holdsResponse_of_idle rfl)
  · exact State.SameResponse.readHalf h fun len _ h1 => h1.readHalf fun nlen _ h2 => h2.storedData len nlen

theorem State.SameResponse.fixedBlock (h : s.SameResponse u) : Yields s.HoldsResponse u.fixedBlock := by
  unfold State.fixedBlock
  split
  · exact yields_next.mpr (State.SameResponse.holds h)
  · exact State.SameResponse.buildCodes h fun _ hv => yields_next.mpr (State.SameResponse.holds hv)

theorem State.SameResponse.dynamicBlock (h : s.SameResponse u) (hlit hdist : BitVec 5) (hclen : BitVec 4) :
    Yields s.HoldsResponse (u.dynamicBlock hlit hdist hclen) :=
  State.SameResponse.consume h fun h1 => State.SameResponse.consume h1 fun h2 => State.SameResponse.consume h2 fun h3 =>
    yields_next.mpr (State.SameResponse.holds h3)

/-! The loops of a dynamic header, and matches -/

theorem State.SameResponse.afterPrecodeLen (h : s.SameResponse u) : Yields s.HoldsResponse u.afterPrecodeLen := by
  obtain ⟨-, he⟩ | ⟨-, he⟩ := u.afterPrecodeLen_cases <;> rw [he]
  · exact yields_next.mpr h.holds
  · rw [State.clearPrecodeLens_frame]
    exact State.SameResponse.buildPrecode h fun _ hv => yields_next.mpr (State.SameResponse.holds hv)

theorem State.SameResponse.writeRun (h : s.SameResponse u) (r : Nat) (v : BitVec 4) :
    Yields s.HoldsResponse (u.writeRun r v) := by
  unfold State.writeRun
  obtain ⟨-, he⟩ | ⟨-, he⟩ | ⟨-, he⟩ := State.afterLens_cases _ <;> rw [he]
  · exact yields_next.mpr (State.SameResponse.holds h)
  · exact yields_next.mpr (State.holdsResponse_of_idle rfl)
  · exact State.SameResponse.buildCodes h fun _ hv => yields_next.mpr (State.SameResponse.holds hv)

theorem State.SameResponse.doMatch (h : s.SameResponse u) (offset : Nat) :
    Yields s.HoldsResponse (u.doMatch offset) := by
  obtain ⟨-, he⟩ | ⟨-, -, he⟩ | ⟨-, -, ⟨-, he⟩ | ⟨t, ht, he⟩⟩ := u.doMatch_cases offset <;> rw [he]
  · exact yields_next.mpr (State.holdsResponse_of_idle rfl)
  · exact yields_next.mpr (State.holdsResponse_of_idle rfl)
  · exact yields_fault
  · rw [State.copyMatch_frame ht]
    exact yields_next.mpr (State.SameResponse.holds h)

/-- Every element leaves the response registers, or ends the command. -/
theorem Element.holdsResponse (he : Element u o) (h : s.SameResponse u) : Yields s.HoldsResponse o := by
  cases he with
  | blockStored _ final => exact h.blockHeader fun _ hv => hv.storedBlock
  | blockFixed _ final => exact h.blockHeader fun _ hv => hv.fixedBlock
  | blockDynamic _ final hlit hdist hclen => exact h.blockHeader fun _ hv => hv.dynamicBlock hlit hdist hclen
  | blockReserved _ final => exact h.blockHeader fun _ _ => yields_next.mpr (State.holdsResponse_of_idle rfl)
  | pcl _ l => exact h.consume fun h1 => State.SameResponse.afterPrecodeLen h1
  | cl _ cw n => exact h.consume fun h1 => h1.writeRun _ _
  | clRepPrev _ cw x =>
    refine h.consume fun h1 => ?_
    split
    · exact yields_next.mpr (State.holdsResponse_of_idle rfl)
    · exact h1.consume fun h2 => h2.writeRun _ _
  | clZero _ cw x => exact h.consume fun h1 => h1.consume fun h2 => h2.writeRun _ _
  | clZeroLong _ cw x => exact h.consume fun h1 => h1.consume fun h2 => h2.writeRun _ _
  | lit _ cw b =>
    refine h.consume fun h1 => ?_
    split
    · exact yields_next.mpr (State.holdsResponse_of_idle rfl)
    · exact yields_next.mpr (State.SameResponse.holds h1)
  | eob _ cw => exact h.consume fun h1 => yields_next.mpr h1.endBlock
  | length _ bits length => exact h.consume fun h1 => yields_next.mpr (State.SameResponse.holds h1)
  | reservedLength _ => exact yields_next.mpr (State.holdsResponse_of_idle rfl)
  | offset _ bits offset => exact h.consume fun h1 => h1.doMatch offset
  | reservedOffset _ => exact yields_next.mpr (State.holdsResponse_of_idle rfl)

end

/-- Settles O51: a raise and the end of the stream write the registers and let `busy` fall; a command is refused while
`busy` is 1. -/
theorem responseHoldsWhileBusy : Obligations.ResponseHoldsWhileBusy := fun s t hb ht =>
  step_yields (P := s.HoldsResponse) (idle := fun _ _ => (State.SameResponse.refl s).holds)
    (refused := fun _ => ⟨rfl, rfl, rfl, rfl, rfl, .inr rfl⟩)
    (reset := fun hidle => absurd (hb.symm.trans hidle) (by decide))
    (accepted := fun _ _ _ _ hidle => absurd (hb.symm.trans hidle) (by decide))
    (overread := fun _ _ _ _ => State.holdsResponse_of_idle rfl)
    (element := fun _ _ _ _ hu he => he.holdsResponse hu.sameResponse)
    t ht

end Sys2Proof.Machine
